-- ==== Sys2Proof/Word.lean ====
section
/-! DEFINITION. The word types of the machine: a byte, a 16-bit word, a 24-bit address, and the two operand widths. -/

namespace Sys2Proof

/-- One byte: the width of every Bus access (R60). -/
abbrev Byte := BitVec 8

/-- A 16-bit register, offset or datum (R6, R20). -/
abbrev Word := BitVec 16

/-- A 24-bit address `bank : offset` (R6, R8). -/
abbrev Addr := BitVec 24

/-- The width of an operand: 8 or 16 bits (R9, R30). -/
inductive Width where
  | w8
  | w16
  deriving DecidableEq, Repr

/-- The number of bits of a width. -/
def Width.bits : Width → Nat
  | .w8 => 8
  | .w16 => 16

end Sys2Proof
end

