-- ==== Sys2Proof/Syntax.lean ====
section
/-! DEFINITION. The instructions: one constructor for each of the 256 rows of spec/opcode_table.json (R130), with the
operand bytes of its format (R93) as typed fields. -/

namespace Sys2Proof

/-- An immediate of the formats FIM and FIX (R93, R100): one byte or two, as the width in force at the fetch says. -/
inductive Imm where
  | b8 (v : Byte)
  | b16 (v : Word)
  deriving DecidableEq, Repr

/-- The immediate as a 16-bit value (R100). -/
def Imm.word : Imm → Word
  | .b8 v => v.setWidth 16
  | .b16 v => v

/-- The instruction set: the whole opcode map R130. The instructions with operand bytes come first, then those that are one byte
long, each group in opcode order (Lean can compile a constructor that has fields only below a fixed place). -/
inductive Instr where
  /-- `$00` BRK #sig8 (R320). -/
  | brk (sig : Byte)
  /-- `$01` ORA (dp,X) (R211). -/
  | oraDpXInd (d : Byte)
  /-- `$02` COP #sig8 (R321). -/
  | cop (sig : Byte)
  /-- `$03` ORA sr,S (R211). -/
  | oraSr (d : Byte)
  /-- `$04` TSB dp (R214). -/
  | tsbDp (d : Byte)
  /-- `$05` ORA dp (R211). -/
  | oraDp (d : Byte)
  /-- `$06` ASL dp (R216). -/
  | aslDp (d : Byte)
  /-- `$07` ORA [dp] (R211). -/
  | oraDpIndLong (d : Byte)
  /-- `$09` ORA #imm (R211). -/
  | oraImm (v : Imm)
  /-- `$0C` TSB abs (R214). -/
  | tsbAbs (o : Word)
  /-- `$0D` ORA abs (R211). -/
  | oraAbs (o : Word)
  /-- `$0E` ASL abs (R216). -/
  | aslAbs (o : Word)
  /-- `$0F` ORA long (R211). -/
  | oraLong (a : Addr)
  /-- `$10` BPL rel8 (R241). -/
  | bpl (r : Byte)
  /-- `$11` ORA (dp),Y (R211). -/
  | oraDpIndY (d : Byte)
  /-- `$12` ORA (dp) (R211). -/
  | oraDpInd (d : Byte)
  /-- `$13` ORA (sr,S),Y (R211). -/
  | oraSrIndY (d : Byte)
  /-- `$14` TRB dp (R215). -/
  | trbDp (d : Byte)
  /-- `$15` ORA dp,X (R211). -/
  | oraDpX (d : Byte)
  /-- `$16` ASL dp,X (R216). -/
  | aslDpX (d : Byte)
  /-- `$17` ORA [dp],Y (R211). -/
  | oraDpIndLongY (d : Byte)
  /-- `$19` ORA abs,Y (R211). -/
  | oraAbsY (o : Word)
  /-- `$1C` TRB abs (R215). -/
  | trbAbs (o : Word)
  /-- `$1D` ORA abs,X (R211). -/
  | oraAbsX (o : Word)
  /-- `$1E` ASL abs,X (R216). -/
  | aslAbsX (o : Word)
  /-- `$1F` ORA long,X (R211). -/
  | oraLongX (a : Addr)
  /-- `$20` JSR abs (R253). -/
  | jsrAbs (o : Word)
  /-- `$21` AND (dp,X) (R210). -/
  | andDpXInd (d : Byte)
  /-- `$22` JSL long (R254). -/
  | jsl (a : Addr)
  /-- `$23` AND sr,S (R210). -/
  | andSr (d : Byte)
  /-- `$24` BIT dp (R213). -/
  | bitDp (d : Byte)
  /-- `$25` AND dp (R210). -/
  | andDp (d : Byte)
  /-- `$26` ROL dp (R218). -/
  | rolDp (d : Byte)
  /-- `$27` AND [dp] (R210). -/
  | andDpIndLong (d : Byte)
  /-- `$29` AND #imm (R210). -/
  | andImm (v : Imm)
  /-- `$2C` BIT abs (R213). -/
  | bitAbs (o : Word)
  /-- `$2D` AND abs (R210). -/
  | andAbs (o : Word)
  /-- `$2E` ROL abs (R218). -/
  | rolAbs (o : Word)
  /-- `$2F` AND long (R210). -/
  | andLong (a : Addr)
  /-- `$30` BMI rel8 (R242). -/
  | bmi (r : Byte)
  /-- `$31` AND (dp),Y (R210). -/
  | andDpIndY (d : Byte)
  /-- `$32` AND (dp) (R210). -/
  | andDpInd (d : Byte)
  /-- `$33` AND (sr,S),Y (R210). -/
  | andSrIndY (d : Byte)
  /-- `$34` BIT dp,X (R213). -/
  | bitDpX (d : Byte)
  /-- `$35` AND dp,X (R210). -/
  | andDpX (d : Byte)
  /-- `$36` ROL dp,X (R218). -/
  | rolDpX (d : Byte)
  /-- `$37` AND [dp],Y (R210). -/
  | andDpIndLongY (d : Byte)
  /-- `$39` AND abs,Y (R210). -/
  | andAbsY (o : Word)
  /-- `$3C` BIT abs,X (R213). -/
  | bitAbsX (o : Word)
  /-- `$3D` AND abs,X (R210). -/
  | andAbsX (o : Word)
  /-- `$3E` ROL abs,X (R218). -/
  | rolAbsX (o : Word)
  /-- `$3F` AND long,X (R210). -/
  | andLongX (a : Addr)
  /-- `$41` EOR (dp,X) (R212). -/
  | eorDpXInd (d : Byte)
  /-- `$42` WDM #imm8 (R324). -/
  | wdm (b : Byte)
  /-- `$43` EOR sr,S (R212). -/
  | eorSr (d : Byte)
  /-- `$44` MVP srcbank,dstbank (R341). -/
  | mvp (dst : Byte) (src : Byte)
  /-- `$45` EOR dp (R212). -/
  | eorDp (d : Byte)
  /-- `$46` LSR dp (R217). -/
  | lsrDp (d : Byte)
  /-- `$47` EOR [dp] (R212). -/
  | eorDpIndLong (d : Byte)
  /-- `$49` EOR #imm (R212). -/
  | eorImm (v : Imm)
  /-- `$4C` JMP abs (R251). -/
  | jmpAbs (o : Word)
  /-- `$4D` EOR abs (R212). -/
  | eorAbs (o : Word)
  /-- `$4E` LSR abs (R217). -/
  | lsrAbs (o : Word)
  /-- `$4F` EOR long (R212). -/
  | eorLong (a : Addr)
  /-- `$50` BVC rel8 (R243). -/
  | bvc (r : Byte)
  /-- `$51` EOR (dp),Y (R212). -/
  | eorDpIndY (d : Byte)
  /-- `$52` EOR (dp) (R212). -/
  | eorDpInd (d : Byte)
  /-- `$53` EOR (sr,S),Y (R212). -/
  | eorSrIndY (d : Byte)
  /-- `$54` MVN srcbank,dstbank (R340). -/
  | mvn (dst : Byte) (src : Byte)
  /-- `$55` EOR dp,X (R212). -/
  | eorDpX (d : Byte)
  /-- `$56` LSR dp,X (R217). -/
  | lsrDpX (d : Byte)
  /-- `$57` EOR [dp],Y (R212). -/
  | eorDpIndLongY (d : Byte)
  /-- `$59` EOR abs,Y (R212). -/
  | eorAbsY (o : Word)
  /-- `$5C` JML long (R252). -/
  | jmlLong (a : Addr)
  /-- `$5D` EOR abs,X (R212). -/
  | eorAbsX (o : Word)
  /-- `$5E` LSR abs,X (R217). -/
  | lsrAbsX (o : Word)
  /-- `$5F` EOR long,X (R212). -/
  | eorLongX (a : Addr)
  /-- `$61` ADC (dp,X) (R184). -/
  | adcDpXInd (d : Byte)
  /-- `$62` PER rel16 (R285). -/
  | per (r : Word)
  /-- `$63` ADC sr,S (R184). -/
  | adcSr (d : Byte)
  /-- `$64` STZ dp (R146). -/
  | stzDp (d : Byte)
  /-- `$65` ADC dp (R184). -/
  | adcDp (d : Byte)
  /-- `$66` ROR dp (R219). -/
  | rorDp (d : Byte)
  /-- `$67` ADC [dp] (R184). -/
  | adcDpIndLong (d : Byte)
  /-- `$69` ADC #imm (R184). -/
  | adcImm (v : Imm)
  /-- `$6C` JMP (abs) (R251). -/
  | jmpInd (o : Word)
  /-- `$6D` ADC abs (R184). -/
  | adcAbs (o : Word)
  /-- `$6E` ROR abs (R219). -/
  | rorAbs (o : Word)
  /-- `$6F` ADC long (R184). -/
  | adcLong (a : Addr)
  /-- `$70` BVS rel8 (R244). -/
  | bvs (r : Byte)
  /-- `$71` ADC (dp),Y (R184). -/
  | adcDpIndY (d : Byte)
  /-- `$72` ADC (dp) (R184). -/
  | adcDpInd (d : Byte)
  /-- `$73` ADC (sr,S),Y (R184). -/
  | adcSrIndY (d : Byte)
  /-- `$74` STZ dp,X (R146). -/
  | stzDpX (d : Byte)
  /-- `$75` ADC dp,X (R184). -/
  | adcDpX (d : Byte)
  /-- `$76` ROR dp,X (R219). -/
  | rorDpX (d : Byte)
  /-- `$77` ADC [dp],Y (R184). -/
  | adcDpIndLongY (d : Byte)
  /-- `$79` ADC abs,Y (R184). -/
  | adcAbsY (o : Word)
  /-- `$7C` JMP (abs,X) (R251). -/
  | jmpIndX (o : Word)
  /-- `$7D` ADC abs,X (R184). -/
  | adcAbsX (o : Word)
  /-- `$7E` ROR abs,X (R219). -/
  | rorAbsX (o : Word)
  /-- `$7F` ADC long,X (R184). -/
  | adcLongX (a : Addr)
  /-- `$80` BRA rel8 (R249). -/
  | bra (r : Byte)
  /-- `$81` STA (dp,X) (R143). -/
  | staDpXInd (d : Byte)
  /-- `$82` BRL rel16 (R250). -/
  | brl (r : Word)
  /-- `$83` STA sr,S (R143). -/
  | staSr (d : Byte)
  /-- `$84` STY dp (R145). -/
  | styDp (d : Byte)
  /-- `$85` STA dp (R143). -/
  | staDp (d : Byte)
  /-- `$86` STX dp (R144). -/
  | stxDp (d : Byte)
  /-- `$87` STA [dp] (R143). -/
  | staDpIndLong (d : Byte)
  /-- `$89` BIT #imm (R213). -/
  | bitImm (v : Imm)
  /-- `$8C` STY abs (R145). -/
  | styAbs (o : Word)
  /-- `$8D` STA abs (R143). -/
  | staAbs (o : Word)
  /-- `$8E` STX abs (R144). -/
  | stxAbs (o : Word)
  /-- `$8F` STA long (R143). -/
  | staLong (a : Addr)
  /-- `$90` BCC rel8 (R245). -/
  | bcc (r : Byte)
  /-- `$91` STA (dp),Y (R143). -/
  | staDpIndY (d : Byte)
  /-- `$92` STA (dp) (R143). -/
  | staDpInd (d : Byte)
  /-- `$93` STA (sr,S),Y (R143). -/
  | staSrIndY (d : Byte)
  /-- `$94` STY dp,X (R145). -/
  | styDpX (d : Byte)
  /-- `$95` STA dp,X (R143). -/
  | staDpX (d : Byte)
  /-- `$96` STX dp,Y (R144). -/
  | stxDpY (d : Byte)
  /-- `$97` STA [dp],Y (R143). -/
  | staDpIndLongY (d : Byte)
  /-- `$99` STA abs,Y (R143). -/
  | staAbsY (o : Word)
  /-- `$9C` STZ abs (R146). -/
  | stzAbs (o : Word)
  /-- `$9D` STA abs,X (R143). -/
  | staAbsX (o : Word)
  /-- `$9E` STZ abs,X (R146). -/
  | stzAbsX (o : Word)
  /-- `$9F` STA long,X (R143). -/
  | staLongX (a : Addr)
  /-- `$A0` LDY #imm (R142). -/
  | ldyImm (v : Imm)
  /-- `$A1` LDA (dp,X) (R140). -/
  | ldaDpXInd (d : Byte)
  /-- `$A2` LDX #imm (R141). -/
  | ldxImm (v : Imm)
  /-- `$A3` LDA sr,S (R140). -/
  | ldaSr (d : Byte)
  /-- `$A4` LDY dp (R142). -/
  | ldyDp (d : Byte)
  /-- `$A5` LDA dp (R140). -/
  | ldaDp (d : Byte)
  /-- `$A6` LDX dp (R141). -/
  | ldxDp (d : Byte)
  /-- `$A7` LDA [dp] (R140). -/
  | ldaDpIndLong (d : Byte)
  /-- `$A9` LDA #imm (R140). -/
  | ldaImm (v : Imm)
  /-- `$AC` LDY abs (R142). -/
  | ldyAbs (o : Word)
  /-- `$AD` LDA abs (R140). -/
  | ldaAbs (o : Word)
  /-- `$AE` LDX abs (R141). -/
  | ldxAbs (o : Word)
  /-- `$AF` LDA long (R140). -/
  | ldaLong (a : Addr)
  /-- `$B0` BCS rel8 (R246). -/
  | bcs (r : Byte)
  /-- `$B1` LDA (dp),Y (R140). -/
  | ldaDpIndY (d : Byte)
  /-- `$B2` LDA (dp) (R140). -/
  | ldaDpInd (d : Byte)
  /-- `$B3` LDA (sr,S),Y (R140). -/
  | ldaSrIndY (d : Byte)
  /-- `$B4` LDY dp,X (R142). -/
  | ldyDpX (d : Byte)
  /-- `$B5` LDA dp,X (R140). -/
  | ldaDpX (d : Byte)
  /-- `$B6` LDX dp,Y (R141). -/
  | ldxDpY (d : Byte)
  /-- `$B7` LDA [dp],Y (R140). -/
  | ldaDpIndLongY (d : Byte)
  /-- `$B9` LDA abs,Y (R140). -/
  | ldaAbsY (o : Word)
  /-- `$BC` LDY abs,X (R142). -/
  | ldyAbsX (o : Word)
  /-- `$BD` LDA abs,X (R140). -/
  | ldaAbsX (o : Word)
  /-- `$BE` LDX abs,Y (R141). -/
  | ldxAbsY (o : Word)
  /-- `$BF` LDA long,X (R140). -/
  | ldaLongX (a : Addr)
  /-- `$C0` CPY #imm (R189). -/
  | cpyImm (v : Imm)
  /-- `$C1` CMP (dp,X) (R187). -/
  | cmpDpXInd (d : Byte)
  /-- `$C2` REP #imm8 (R307). -/
  | rep (k : Byte)
  /-- `$C3` CMP sr,S (R187). -/
  | cmpSr (d : Byte)
  /-- `$C4` CPY dp (R189). -/
  | cpyDp (d : Byte)
  /-- `$C5` CMP dp (R187). -/
  | cmpDp (d : Byte)
  /-- `$C6` DEC dp (R191). -/
  | decDp (d : Byte)
  /-- `$C7` CMP [dp] (R187). -/
  | cmpDpIndLong (d : Byte)
  /-- `$C9` CMP #imm (R187). -/
  | cmpImm (v : Imm)
  /-- `$CC` CPY abs (R189). -/
  | cpyAbs (o : Word)
  /-- `$CD` CMP abs (R187). -/
  | cmpAbs (o : Word)
  /-- `$CE` DEC abs (R191). -/
  | decAbs (o : Word)
  /-- `$CF` CMP long (R187). -/
  | cmpLong (a : Addr)
  /-- `$D0` BNE rel8 (R247). -/
  | bne (r : Byte)
  /-- `$D1` CMP (dp),Y (R187). -/
  | cmpDpIndY (d : Byte)
  /-- `$D2` CMP (dp) (R187). -/
  | cmpDpInd (d : Byte)
  /-- `$D3` CMP (sr,S),Y (R187). -/
  | cmpSrIndY (d : Byte)
  /-- `$D4` PEI (dp) (R284). -/
  | pei (d : Byte)
  /-- `$D5` CMP dp,X (R187). -/
  | cmpDpX (d : Byte)
  /-- `$D6` DEC dp,X (R191). -/
  | decDpX (d : Byte)
  /-- `$D7` CMP [dp],Y (R187). -/
  | cmpDpIndLongY (d : Byte)
  /-- `$D9` CMP abs,Y (R187). -/
  | cmpAbsY (o : Word)
  /-- `$DC` JML [abs] (R252). -/
  | jmlInd (o : Word)
  /-- `$DD` CMP abs,X (R187). -/
  | cmpAbsX (o : Word)
  /-- `$DE` DEC abs,X (R191). -/
  | decAbsX (o : Word)
  /-- `$DF` CMP long,X (R187). -/
  | cmpLongX (a : Addr)
  /-- `$E0` CPX #imm (R188). -/
  | cpxImm (v : Imm)
  /-- `$E1` SBC (dp,X) (R185). -/
  | sbcDpXInd (d : Byte)
  /-- `$E2` SEP #imm8 (R308). -/
  | sep (k : Byte)
  /-- `$E3` SBC sr,S (R185). -/
  | sbcSr (d : Byte)
  /-- `$E4` CPX dp (R188). -/
  | cpxDp (d : Byte)
  /-- `$E5` SBC dp (R185). -/
  | sbcDp (d : Byte)
  /-- `$E6` INC dp (R190). -/
  | incDp (d : Byte)
  /-- `$E7` SBC [dp] (R185). -/
  | sbcDpIndLong (d : Byte)
  /-- `$E9` SBC #imm (R185). -/
  | sbcImm (v : Imm)
  /-- `$EC` CPX abs (R188). -/
  | cpxAbs (o : Word)
  /-- `$ED` SBC abs (R185). -/
  | sbcAbs (o : Word)
  /-- `$EE` INC abs (R190). -/
  | incAbs (o : Word)
  /-- `$EF` SBC long (R185). -/
  | sbcLong (a : Addr)
  /-- `$F0` BEQ rel8 (R248). -/
  | beq (r : Byte)
  /-- `$F1` SBC (dp),Y (R185). -/
  | sbcDpIndY (d : Byte)
  /-- `$F2` SBC (dp) (R185). -/
  | sbcDpInd (d : Byte)
  /-- `$F3` SBC (sr,S),Y (R185). -/
  | sbcSrIndY (d : Byte)
  /-- `$F4` PEA #imm16 (R283). -/
  | pea (v : Word)
  /-- `$F5` SBC dp,X (R185). -/
  | sbcDpX (d : Byte)
  /-- `$F6` INC dp,X (R190). -/
  | incDpX (d : Byte)
  /-- `$F7` SBC [dp],Y (R185). -/
  | sbcDpIndLongY (d : Byte)
  /-- `$F9` SBC abs,Y (R185). -/
  | sbcAbsY (o : Word)
  /-- `$FC` JSR (abs,X) (R253). -/
  | jsrIndX (o : Word)
  /-- `$FD` SBC abs,X (R185). -/
  | sbcAbsX (o : Word)
  /-- `$FE` INC abs,X (R190). -/
  | incAbsX (o : Word)
  /-- `$FF` SBC long,X (R185). -/
  | sbcLongX (a : Addr)
  /-- `$08` PHP (R271). -/
  | php
  /-- `$0A` ASL A (R216). -/
  | aslA
  /-- `$0B` PHD (R275). -/
  | phd
  /-- `$18` CLC (R300). -/
  | clc
  /-- `$1A` INC A (R190). -/
  | incA
  /-- `$1B` TCS (R170). -/
  | tcs
  /-- `$28` PLP (R278). -/
  | plp
  /-- `$2A` ROL A (R218). -/
  | rolA
  /-- `$2B` PLD (R282). -/
  | pld
  /-- `$38` SEC (R301). -/
  | sec
  /-- `$3A` DEC A (R191). -/
  | decA
  /-- `$3B` TSC (R171). -/
  | tsc
  /-- `$40` RTI (R322). -/
  | rti
  /-- `$48` PHA (R270). -/
  | pha
  /-- `$4A` LSR A (R217). -/
  | lsrA
  /-- `$4B` PHK (R276). -/
  | phk
  /-- `$58` CLI (R302). -/
  | cli
  /-- `$5A` PHY (R273). -/
  | phy
  /-- `$5B` TCD (R168). -/
  | tcd
  /-- `$60` RTS (R255). -/
  | rts
  /-- `$68` PLA (R277). -/
  | pla
  /-- `$6A` ROR A (R219). -/
  | rorA
  /-- `$6B` RTL (R256). -/
  | rtl
  /-- `$78` SEI (R303). -/
  | sei
  /-- `$7A` PLY (R280). -/
  | ply
  /-- `$7B` TDC (R169). -/
  | tdc
  /-- `$88` DEY (R195). -/
  | dey
  /-- `$8A` TXA (R162). -/
  | txa
  /-- `$8B` PHB (R274). -/
  | phb
  /-- `$98` TYA (R163). -/
  | tya
  /-- `$9A` TXS (R167). -/
  | txs
  /-- `$9B` TXY (R164). -/
  | txy
  /-- `$A8` TAY (R161). -/
  | tay
  /-- `$AA` TAX (R160). -/
  | tax
  /-- `$AB` PLB (R281). -/
  | plb
  /-- `$B8` CLV (R306). -/
  | clv
  /-- `$BA` TSX (R166). -/
  | tsx
  /-- `$BB` TYX (R165). -/
  | tyx
  /-- `$C8` INY (R193). -/
  | iny
  /-- `$CA` DEX (R194). -/
  | dex
  /-- `$CB` WAI (R326). -/
  | wai
  /-- `$D8` CLD (R304). -/
  | cld
  /-- `$DA` PHX (R272). -/
  | phx
  /-- `$DB` STP (R327). -/
  | stp
  /-- `$E8` INX (R192). -/
  | inx
  /-- `$EA` NOP (R323). -/
  | nop
  /-- `$EB` XBA (R172). -/
  | xba
  /-- `$F8` SED (R305). -/
  | sed
  /-- `$FA` PLX (R279). -/
  | plx
  /-- `$FB` XCE (R309). -/
  | xce
  deriving DecidableEq, Repr

end Sys2Proof
end

