-- ==== Sys2Proof/WellFormed.lean ====
section
/-! DEFINITION. When an instruction term is well formed under the operand widths in force: its immediate has the width that
the spec gives it (R94, R95, R100). Every other operand has the width of its type. -/

namespace Sys2Proof

/-- The immediate has one byte exactly when the width is 8 bits (R100). -/
def Imm.fits (eight : Bool) : Imm → Bool
  | .b8 _ => eight
  | .b16 _ => !eight

/-- `i` is an instruction as the fetch can deliver it when `m8` and `x8` are in force (R92, R94, R95). -/
def Instr.wf (m8 x8 : Bool) : Instr → Bool
  | .oraImm v | .andImm v | .eorImm v | .adcImm v | .bitImm v | .ldaImm v
  | .cmpImm v | .sbcImm v => v.fits m8
  | .ldyImm v | .ldxImm v | .cpyImm v | .cpxImm v => v.fits x8
  | .brk _ | .oraDpXInd _ | .cop _ | .oraSr _ | .tsbDp _ | .oraDp _
  | .aslDp _ | .oraDpIndLong _ | .php | .aslA | .phd | .tsbAbs _
  | .oraAbs _ | .aslAbs _ | .oraLong _ | .bpl _ | .oraDpIndY _ | .oraDpInd _
  | .oraSrIndY _ | .trbDp _ | .oraDpX _ | .aslDpX _ | .oraDpIndLongY _ | .clc
  | .oraAbsY _ | .incA | .tcs | .trbAbs _ | .oraAbsX _ | .aslAbsX _
  | .oraLongX _ | .jsrAbs _ | .andDpXInd _ | .jsl _ | .andSr _ | .bitDp _
  | .andDp _ | .rolDp _ | .andDpIndLong _ | .plp | .rolA | .pld
  | .bitAbs _ | .andAbs _ | .rolAbs _ | .andLong _ | .bmi _ | .andDpIndY _
  | .andDpInd _ | .andSrIndY _ | .bitDpX _ | .andDpX _ | .rolDpX _ | .andDpIndLongY _
  | .sec | .andAbsY _ | .decA | .tsc | .bitAbsX _ | .andAbsX _
  | .rolAbsX _ | .andLongX _ | .rti | .eorDpXInd _ | .wdm _ | .eorSr _
  | .mvp _ _ | .eorDp _ | .lsrDp _ | .eorDpIndLong _ | .pha | .lsrA
  | .phk | .jmpAbs _ | .eorAbs _ | .lsrAbs _ | .eorLong _ | .bvc _
  | .eorDpIndY _ | .eorDpInd _ | .eorSrIndY _ | .mvn _ _ | .eorDpX _ | .lsrDpX _
  | .eorDpIndLongY _ | .cli | .eorAbsY _ | .phy | .tcd | .jmlLong _
  | .eorAbsX _ | .lsrAbsX _ | .eorLongX _ | .rts | .adcDpXInd _ | .per _
  | .adcSr _ | .stzDp _ | .adcDp _ | .rorDp _ | .adcDpIndLong _ | .pla
  | .rorA | .rtl | .jmpInd _ | .adcAbs _ | .rorAbs _ | .adcLong _
  | .bvs _ | .adcDpIndY _ | .adcDpInd _ | .adcSrIndY _ | .stzDpX _ | .adcDpX _
  | .rorDpX _ | .adcDpIndLongY _ | .sei | .adcAbsY _ | .ply | .tdc
  | .jmpIndX _ | .adcAbsX _ | .rorAbsX _ | .adcLongX _ | .bra _ | .staDpXInd _
  | .brl _ | .staSr _ | .styDp _ | .staDp _ | .stxDp _ | .staDpIndLong _
  | .dey | .txa | .phb | .styAbs _ | .staAbs _ | .stxAbs _
  | .staLong _ | .bcc _ | .staDpIndY _ | .staDpInd _ | .staSrIndY _ | .styDpX _
  | .staDpX _ | .stxDpY _ | .staDpIndLongY _ | .tya | .staAbsY _ | .txs
  | .txy | .stzAbs _ | .staAbsX _ | .stzAbsX _ | .staLongX _ | .ldaDpXInd _
  | .ldaSr _ | .ldyDp _ | .ldaDp _ | .ldxDp _ | .ldaDpIndLong _ | .tay
  | .tax | .plb | .ldyAbs _ | .ldaAbs _ | .ldxAbs _ | .ldaLong _
  | .bcs _ | .ldaDpIndY _ | .ldaDpInd _ | .ldaSrIndY _ | .ldyDpX _ | .ldaDpX _
  | .ldxDpY _ | .ldaDpIndLongY _ | .clv | .ldaAbsY _ | .tsx | .tyx
  | .ldyAbsX _ | .ldaAbsX _ | .ldxAbsY _ | .ldaLongX _ | .cmpDpXInd _ | .rep _
  | .cmpSr _ | .cpyDp _ | .cmpDp _ | .decDp _ | .cmpDpIndLong _ | .iny
  | .dex | .wai | .cpyAbs _ | .cmpAbs _ | .decAbs _ | .cmpLong _
  | .bne _ | .cmpDpIndY _ | .cmpDpInd _ | .cmpSrIndY _ | .pei _ | .cmpDpX _
  | .decDpX _ | .cmpDpIndLongY _ | .cld | .cmpAbsY _ | .phx | .stp
  | .jmlInd _ | .cmpAbsX _ | .decAbsX _ | .cmpLongX _ | .sbcDpXInd _ | .sep _
  | .sbcSr _ | .cpxDp _ | .sbcDp _ | .incDp _ | .sbcDpIndLong _ | .inx
  | .nop | .xba | .cpxAbs _ | .sbcAbs _ | .incAbs _ | .sbcLong _
  | .beq _ | .sbcDpIndY _ | .sbcDpInd _ | .sbcSrIndY _ | .pea _ | .sbcDpX _
  | .incDpX _ | .sbcDpIndLongY _ | .sed | .sbcAbsY _ | .plx | .xce
  | .jsrIndX _ | .sbcAbsX _ | .incAbsX _ | .sbcLongX _ => true

end Sys2Proof
end

