-- ==== Sys2Proof/Decode.lean ====
section
/-! DEFINITION. The decoder, total on any bytes (R90 to R97, R130), and after it the encoder, written from the same map. -/

namespace Sys2Proof

/-- Why a byte list does not decode. Every opcode byte has an instruction (R97, R132), so the only reason is that bytes are
missing. -/
inductive DecodeError where
  | noBytes
  | operandBytesMissing
  deriving DecidableEq, Repr

/-- An entry of the opcode map: the format (R93) and the instruction it makes from its operand bytes. -/
inductive Shape where
  | f1 (i : Instr)
  | f2 (mk : Byte → Instr)
  | f3 (mk : Word → Instr)
  | f3m (mk : Byte → Byte → Instr)
  | f4 (mk : Addr → Instr)
  | fim (mk : Imm → Instr)
  | fix (mk : Imm → Instr)

/-- The number of operand bytes (R92): the two immediate formats depend on the width in force. -/
def Shape.operandBytes (m8 x8 : Bool) : Shape → Nat
  | .f1 _ => 0
  | .f2 _ => 1
  | .f3 _ => 2
  | .f3m _ => 2
  | .f4 _ => 3
  | .fim _ => if m8 then 1 else 2
  | .fix _ => if x8 then 1 else 2

/-- Two bytes, low first, as a word (R91). -/
def wordOf (lo hi : Byte) : Word := hi ++ lo

/-- Three bytes, low first, as an address (R91). -/
def addrOf (lo mid bank : Byte) : Addr := bank ++ (mid ++ lo)

/-- Row `0x` of the opcode map R130. -/
def opRow0 : List Shape :=
  [.f2 .brk, .f2 .oraDpXInd, .f2 .cop, .f2 .oraSr,
   .f2 .tsbDp, .f2 .oraDp, .f2 .aslDp, .f2 .oraDpIndLong,
   .f1 .php, .fim .oraImm, .f1 .aslA, .f1 .phd,
   .f3 .tsbAbs, .f3 .oraAbs, .f3 .aslAbs, .f4 .oraLong]

/-- Row `1x` of the opcode map R130. -/
def opRow1 : List Shape :=
  [.f2 .bpl, .f2 .oraDpIndY, .f2 .oraDpInd, .f2 .oraSrIndY,
   .f2 .trbDp, .f2 .oraDpX, .f2 .aslDpX, .f2 .oraDpIndLongY,
   .f1 .clc, .f3 .oraAbsY, .f1 .incA, .f1 .tcs,
   .f3 .trbAbs, .f3 .oraAbsX, .f3 .aslAbsX, .f4 .oraLongX]

/-- Row `2x` of the opcode map R130. -/
def opRow2 : List Shape :=
  [.f3 .jsrAbs, .f2 .andDpXInd, .f4 .jsl, .f2 .andSr,
   .f2 .bitDp, .f2 .andDp, .f2 .rolDp, .f2 .andDpIndLong,
   .f1 .plp, .fim .andImm, .f1 .rolA, .f1 .pld,
   .f3 .bitAbs, .f3 .andAbs, .f3 .rolAbs, .f4 .andLong]

/-- Row `3x` of the opcode map R130. -/
def opRow3 : List Shape :=
  [.f2 .bmi, .f2 .andDpIndY, .f2 .andDpInd, .f2 .andSrIndY,
   .f2 .bitDpX, .f2 .andDpX, .f2 .rolDpX, .f2 .andDpIndLongY,
   .f1 .sec, .f3 .andAbsY, .f1 .decA, .f1 .tsc,
   .f3 .bitAbsX, .f3 .andAbsX, .f3 .rolAbsX, .f4 .andLongX]

/-- Row `4x` of the opcode map R130. -/
def opRow4 : List Shape :=
  [.f1 .rti, .f2 .eorDpXInd, .f2 .wdm, .f2 .eorSr,
   .f3m .mvp, .f2 .eorDp, .f2 .lsrDp, .f2 .eorDpIndLong,
   .f1 .pha, .fim .eorImm, .f1 .lsrA, .f1 .phk,
   .f3 .jmpAbs, .f3 .eorAbs, .f3 .lsrAbs, .f4 .eorLong]

/-- Row `5x` of the opcode map R130. -/
def opRow5 : List Shape :=
  [.f2 .bvc, .f2 .eorDpIndY, .f2 .eorDpInd, .f2 .eorSrIndY,
   .f3m .mvn, .f2 .eorDpX, .f2 .lsrDpX, .f2 .eorDpIndLongY,
   .f1 .cli, .f3 .eorAbsY, .f1 .phy, .f1 .tcd,
   .f4 .jmlLong, .f3 .eorAbsX, .f3 .lsrAbsX, .f4 .eorLongX]

/-- Row `6x` of the opcode map R130. -/
def opRow6 : List Shape :=
  [.f1 .rts, .f2 .adcDpXInd, .f3 .per, .f2 .adcSr,
   .f2 .stzDp, .f2 .adcDp, .f2 .rorDp, .f2 .adcDpIndLong,
   .f1 .pla, .fim .adcImm, .f1 .rorA, .f1 .rtl,
   .f3 .jmpInd, .f3 .adcAbs, .f3 .rorAbs, .f4 .adcLong]

/-- Row `7x` of the opcode map R130. -/
def opRow7 : List Shape :=
  [.f2 .bvs, .f2 .adcDpIndY, .f2 .adcDpInd, .f2 .adcSrIndY,
   .f2 .stzDpX, .f2 .adcDpX, .f2 .rorDpX, .f2 .adcDpIndLongY,
   .f1 .sei, .f3 .adcAbsY, .f1 .ply, .f1 .tdc,
   .f3 .jmpIndX, .f3 .adcAbsX, .f3 .rorAbsX, .f4 .adcLongX]

/-- Row `8x` of the opcode map R130. -/
def opRow8 : List Shape :=
  [.f2 .bra, .f2 .staDpXInd, .f3 .brl, .f2 .staSr,
   .f2 .styDp, .f2 .staDp, .f2 .stxDp, .f2 .staDpIndLong,
   .f1 .dey, .fim .bitImm, .f1 .txa, .f1 .phb,
   .f3 .styAbs, .f3 .staAbs, .f3 .stxAbs, .f4 .staLong]

/-- Row `9x` of the opcode map R130. -/
def opRow9 : List Shape :=
  [.f2 .bcc, .f2 .staDpIndY, .f2 .staDpInd, .f2 .staSrIndY,
   .f2 .styDpX, .f2 .staDpX, .f2 .stxDpY, .f2 .staDpIndLongY,
   .f1 .tya, .f3 .staAbsY, .f1 .txs, .f1 .txy,
   .f3 .stzAbs, .f3 .staAbsX, .f3 .stzAbsX, .f4 .staLongX]

/-- Row `Ax` of the opcode map R130. -/
def opRowA : List Shape :=
  [.fix .ldyImm, .f2 .ldaDpXInd, .fix .ldxImm, .f2 .ldaSr,
   .f2 .ldyDp, .f2 .ldaDp, .f2 .ldxDp, .f2 .ldaDpIndLong,
   .f1 .tay, .fim .ldaImm, .f1 .tax, .f1 .plb,
   .f3 .ldyAbs, .f3 .ldaAbs, .f3 .ldxAbs, .f4 .ldaLong]

/-- Row `Bx` of the opcode map R130. -/
def opRowB : List Shape :=
  [.f2 .bcs, .f2 .ldaDpIndY, .f2 .ldaDpInd, .f2 .ldaSrIndY,
   .f2 .ldyDpX, .f2 .ldaDpX, .f2 .ldxDpY, .f2 .ldaDpIndLongY,
   .f1 .clv, .f3 .ldaAbsY, .f1 .tsx, .f1 .tyx,
   .f3 .ldyAbsX, .f3 .ldaAbsX, .f3 .ldxAbsY, .f4 .ldaLongX]

/-- Row `Cx` of the opcode map R130. -/
def opRowC : List Shape :=
  [.fix .cpyImm, .f2 .cmpDpXInd, .f2 .rep, .f2 .cmpSr,
   .f2 .cpyDp, .f2 .cmpDp, .f2 .decDp, .f2 .cmpDpIndLong,
   .f1 .iny, .fim .cmpImm, .f1 .dex, .f1 .wai,
   .f3 .cpyAbs, .f3 .cmpAbs, .f3 .decAbs, .f4 .cmpLong]

/-- Row `Dx` of the opcode map R130. -/
def opRowD : List Shape :=
  [.f2 .bne, .f2 .cmpDpIndY, .f2 .cmpDpInd, .f2 .cmpSrIndY,
   .f2 .pei, .f2 .cmpDpX, .f2 .decDpX, .f2 .cmpDpIndLongY,
   .f1 .cld, .f3 .cmpAbsY, .f1 .phx, .f1 .stp,
   .f3 .jmlInd, .f3 .cmpAbsX, .f3 .decAbsX, .f4 .cmpLongX]

/-- Row `Ex` of the opcode map R130. -/
def opRowE : List Shape :=
  [.fix .cpxImm, .f2 .sbcDpXInd, .f2 .sep, .f2 .sbcSr,
   .f2 .cpxDp, .f2 .sbcDp, .f2 .incDp, .f2 .sbcDpIndLong,
   .f1 .inx, .fim .sbcImm, .f1 .nop, .f1 .xba,
   .f3 .cpxAbs, .f3 .sbcAbs, .f3 .incAbs, .f4 .sbcLong]

/-- Row `Fx` of the opcode map R130. -/
def opRowF : List Shape :=
  [.f2 .beq, .f2 .sbcDpIndY, .f2 .sbcDpInd, .f2 .sbcSrIndY,
   .f3 .pea, .f2 .sbcDpX, .f2 .incDpX, .f2 .sbcDpIndLongY,
   .f1 .sed, .f3 .sbcAbsY, .f1 .plx, .f1 .xce,
   .f3 .jsrIndX, .f3 .sbcAbsX, .f3 .incAbsX, .f4 .sbcLongX]

/-- The whole opcode map R130, indexed by the opcode byte. -/
def opMap : List Shape :=
  opRow0 ++ opRow1 ++ opRow2 ++ opRow3 ++ opRow4 ++ opRow5 ++ opRow6 ++ opRow7 ++
  opRow8 ++ opRow9 ++ opRowA ++ opRowB ++ opRowC ++ opRowD ++ opRowE ++ opRowF

/-- The entry of an opcode byte. The map has 256 entries, so the default is never taken (R97, R132). -/
def shapeOf (op : Byte) : Shape := opMap.getD op.toNat (.f1 .nop)

/-- The instruction an entry makes from exactly its operand bytes, given in fetch order (R93). -/
def Shape.build (m8 x8 : Bool) : Shape → List Byte → Option Instr
  | .f1 i, [] => some i
  | .f2 mk, [b0] => some (mk b0)
  | .f3 mk, [b0, b1] => some (mk (wordOf b0 b1))
  | .f3m mk, [b0, b1] => some (mk b0 b1)
  | .f4 mk, [b0, b1, b2] => some (mk (addrOf b0 b1 b2))
  | .fim mk, [b0] => if m8 then some (mk (.b8 b0)) else none
  | .fim mk, [b0, b1] => if m8 then none else some (mk (.b16 (wordOf b0 b1)))
  | .fix mk, [b0] => if x8 then some (mk (.b8 b0)) else none
  | .fix mk, [b0, b1] => if x8 then none else some (mk (.b16 (wordOf b0 b1)))
  | _, _ => none

/-- Decode one instruction from the front of a byte list under the widths in force, and give the bytes that follow it.
The length comes from the opcode byte and, for the twelve immediates, from `m8` or `x8` (R92). -/
def decode (m8 x8 : Bool) : List Byte → Except DecodeError (Instr × List Byte)
  | [] => .error .noBytes
  | op :: bytes =>
    let shape := shapeOf op
    let n := shape.operandBytes m8 x8
    match shape.build m8 x8 (bytes.take n) with
    | some i => .ok (i, bytes.drop n)
    | none => .error .operandBytesMissing

/-- The low byte of a word. -/
def loByte (v : Word) : Byte := v.extractLsb' 0 8

/-- The high byte of a word. -/
def hiByte (v : Word) : Byte := v.extractLsb' 8 8

/-- The bytes of an immediate, low first (R91, R100). -/
def Imm.bytes : Imm → List Byte
  | .b8 v => [v]
  | .b16 v => [loByte v, hiByte v]

/-- The bytes of a word operand, low first (R91). -/
def wordBytes (v : Word) : List Byte := [loByte v, hiByte v]

/-- The bytes of a long operand: low, middle, bank (R91). -/
def addrBytes (a : Addr) : List Byte := [a.extractLsb' 0 8, a.extractLsb' 8 8, a.extractLsb' 16 8]

/-- The bytes of an instruction: its opcode (R130), then its operand bytes in fetch order (R93). -/
def encode : Instr → List Byte
  | .brk sig => [0x00, sig]
  | .oraDpXInd d => [0x01, d]
  | .cop sig => [0x02, sig]
  | .oraSr d => [0x03, d]
  | .tsbDp d => [0x04, d]
  | .oraDp d => [0x05, d]
  | .aslDp d => [0x06, d]
  | .oraDpIndLong d => [0x07, d]
  | .php => [0x08]
  | .oraImm v => 0x09 :: v.bytes
  | .aslA => [0x0A]
  | .phd => [0x0B]
  | .tsbAbs o => 0x0C :: wordBytes o
  | .oraAbs o => 0x0D :: wordBytes o
  | .aslAbs o => 0x0E :: wordBytes o
  | .oraLong a => 0x0F :: addrBytes a
  | .bpl r => [0x10, r]
  | .oraDpIndY d => [0x11, d]
  | .oraDpInd d => [0x12, d]
  | .oraSrIndY d => [0x13, d]
  | .trbDp d => [0x14, d]
  | .oraDpX d => [0x15, d]
  | .aslDpX d => [0x16, d]
  | .oraDpIndLongY d => [0x17, d]
  | .clc => [0x18]
  | .oraAbsY o => 0x19 :: wordBytes o
  | .incA => [0x1A]
  | .tcs => [0x1B]
  | .trbAbs o => 0x1C :: wordBytes o
  | .oraAbsX o => 0x1D :: wordBytes o
  | .aslAbsX o => 0x1E :: wordBytes o
  | .oraLongX a => 0x1F :: addrBytes a
  | .jsrAbs o => 0x20 :: wordBytes o
  | .andDpXInd d => [0x21, d]
  | .jsl a => 0x22 :: addrBytes a
  | .andSr d => [0x23, d]
  | .bitDp d => [0x24, d]
  | .andDp d => [0x25, d]
  | .rolDp d => [0x26, d]
  | .andDpIndLong d => [0x27, d]
  | .plp => [0x28]
  | .andImm v => 0x29 :: v.bytes
  | .rolA => [0x2A]
  | .pld => [0x2B]
  | .bitAbs o => 0x2C :: wordBytes o
  | .andAbs o => 0x2D :: wordBytes o
  | .rolAbs o => 0x2E :: wordBytes o
  | .andLong a => 0x2F :: addrBytes a
  | .bmi r => [0x30, r]
  | .andDpIndY d => [0x31, d]
  | .andDpInd d => [0x32, d]
  | .andSrIndY d => [0x33, d]
  | .bitDpX d => [0x34, d]
  | .andDpX d => [0x35, d]
  | .rolDpX d => [0x36, d]
  | .andDpIndLongY d => [0x37, d]
  | .sec => [0x38]
  | .andAbsY o => 0x39 :: wordBytes o
  | .decA => [0x3A]
  | .tsc => [0x3B]
  | .bitAbsX o => 0x3C :: wordBytes o
  | .andAbsX o => 0x3D :: wordBytes o
  | .rolAbsX o => 0x3E :: wordBytes o
  | .andLongX a => 0x3F :: addrBytes a
  | .rti => [0x40]
  | .eorDpXInd d => [0x41, d]
  | .wdm b => [0x42, b]
  | .eorSr d => [0x43, d]
  | .mvp dst src => [0x44, dst, src]
  | .eorDp d => [0x45, d]
  | .lsrDp d => [0x46, d]
  | .eorDpIndLong d => [0x47, d]
  | .pha => [0x48]
  | .eorImm v => 0x49 :: v.bytes
  | .lsrA => [0x4A]
  | .phk => [0x4B]
  | .jmpAbs o => 0x4C :: wordBytes o
  | .eorAbs o => 0x4D :: wordBytes o
  | .lsrAbs o => 0x4E :: wordBytes o
  | .eorLong a => 0x4F :: addrBytes a
  | .bvc r => [0x50, r]
  | .eorDpIndY d => [0x51, d]
  | .eorDpInd d => [0x52, d]
  | .eorSrIndY d => [0x53, d]
  | .mvn dst src => [0x54, dst, src]
  | .eorDpX d => [0x55, d]
  | .lsrDpX d => [0x56, d]
  | .eorDpIndLongY d => [0x57, d]
  | .cli => [0x58]
  | .eorAbsY o => 0x59 :: wordBytes o
  | .phy => [0x5A]
  | .tcd => [0x5B]
  | .jmlLong a => 0x5C :: addrBytes a
  | .eorAbsX o => 0x5D :: wordBytes o
  | .lsrAbsX o => 0x5E :: wordBytes o
  | .eorLongX a => 0x5F :: addrBytes a
  | .rts => [0x60]
  | .adcDpXInd d => [0x61, d]
  | .per r => 0x62 :: wordBytes r
  | .adcSr d => [0x63, d]
  | .stzDp d => [0x64, d]
  | .adcDp d => [0x65, d]
  | .rorDp d => [0x66, d]
  | .adcDpIndLong d => [0x67, d]
  | .pla => [0x68]
  | .adcImm v => 0x69 :: v.bytes
  | .rorA => [0x6A]
  | .rtl => [0x6B]
  | .jmpInd o => 0x6C :: wordBytes o
  | .adcAbs o => 0x6D :: wordBytes o
  | .rorAbs o => 0x6E :: wordBytes o
  | .adcLong a => 0x6F :: addrBytes a
  | .bvs r => [0x70, r]
  | .adcDpIndY d => [0x71, d]
  | .adcDpInd d => [0x72, d]
  | .adcSrIndY d => [0x73, d]
  | .stzDpX d => [0x74, d]
  | .adcDpX d => [0x75, d]
  | .rorDpX d => [0x76, d]
  | .adcDpIndLongY d => [0x77, d]
  | .sei => [0x78]
  | .adcAbsY o => 0x79 :: wordBytes o
  | .ply => [0x7A]
  | .tdc => [0x7B]
  | .jmpIndX o => 0x7C :: wordBytes o
  | .adcAbsX o => 0x7D :: wordBytes o
  | .rorAbsX o => 0x7E :: wordBytes o
  | .adcLongX a => 0x7F :: addrBytes a
  | .bra r => [0x80, r]
  | .staDpXInd d => [0x81, d]
  | .brl r => 0x82 :: wordBytes r
  | .staSr d => [0x83, d]
  | .styDp d => [0x84, d]
  | .staDp d => [0x85, d]
  | .stxDp d => [0x86, d]
  | .staDpIndLong d => [0x87, d]
  | .dey => [0x88]
  | .bitImm v => 0x89 :: v.bytes
  | .txa => [0x8A]
  | .phb => [0x8B]
  | .styAbs o => 0x8C :: wordBytes o
  | .staAbs o => 0x8D :: wordBytes o
  | .stxAbs o => 0x8E :: wordBytes o
  | .staLong a => 0x8F :: addrBytes a
  | .bcc r => [0x90, r]
  | .staDpIndY d => [0x91, d]
  | .staDpInd d => [0x92, d]
  | .staSrIndY d => [0x93, d]
  | .styDpX d => [0x94, d]
  | .staDpX d => [0x95, d]
  | .stxDpY d => [0x96, d]
  | .staDpIndLongY d => [0x97, d]
  | .tya => [0x98]
  | .staAbsY o => 0x99 :: wordBytes o
  | .txs => [0x9A]
  | .txy => [0x9B]
  | .stzAbs o => 0x9C :: wordBytes o
  | .staAbsX o => 0x9D :: wordBytes o
  | .stzAbsX o => 0x9E :: wordBytes o
  | .staLongX a => 0x9F :: addrBytes a
  | .ldyImm v => 0xA0 :: v.bytes
  | .ldaDpXInd d => [0xA1, d]
  | .ldxImm v => 0xA2 :: v.bytes
  | .ldaSr d => [0xA3, d]
  | .ldyDp d => [0xA4, d]
  | .ldaDp d => [0xA5, d]
  | .ldxDp d => [0xA6, d]
  | .ldaDpIndLong d => [0xA7, d]
  | .tay => [0xA8]
  | .ldaImm v => 0xA9 :: v.bytes
  | .tax => [0xAA]
  | .plb => [0xAB]
  | .ldyAbs o => 0xAC :: wordBytes o
  | .ldaAbs o => 0xAD :: wordBytes o
  | .ldxAbs o => 0xAE :: wordBytes o
  | .ldaLong a => 0xAF :: addrBytes a
  | .bcs r => [0xB0, r]
  | .ldaDpIndY d => [0xB1, d]
  | .ldaDpInd d => [0xB2, d]
  | .ldaSrIndY d => [0xB3, d]
  | .ldyDpX d => [0xB4, d]
  | .ldaDpX d => [0xB5, d]
  | .ldxDpY d => [0xB6, d]
  | .ldaDpIndLongY d => [0xB7, d]
  | .clv => [0xB8]
  | .ldaAbsY o => 0xB9 :: wordBytes o
  | .tsx => [0xBA]
  | .tyx => [0xBB]
  | .ldyAbsX o => 0xBC :: wordBytes o
  | .ldaAbsX o => 0xBD :: wordBytes o
  | .ldxAbsY o => 0xBE :: wordBytes o
  | .ldaLongX a => 0xBF :: addrBytes a
  | .cpyImm v => 0xC0 :: v.bytes
  | .cmpDpXInd d => [0xC1, d]
  | .rep k => [0xC2, k]
  | .cmpSr d => [0xC3, d]
  | .cpyDp d => [0xC4, d]
  | .cmpDp d => [0xC5, d]
  | .decDp d => [0xC6, d]
  | .cmpDpIndLong d => [0xC7, d]
  | .iny => [0xC8]
  | .cmpImm v => 0xC9 :: v.bytes
  | .dex => [0xCA]
  | .wai => [0xCB]
  | .cpyAbs o => 0xCC :: wordBytes o
  | .cmpAbs o => 0xCD :: wordBytes o
  | .decAbs o => 0xCE :: wordBytes o
  | .cmpLong a => 0xCF :: addrBytes a
  | .bne r => [0xD0, r]
  | .cmpDpIndY d => [0xD1, d]
  | .cmpDpInd d => [0xD2, d]
  | .cmpSrIndY d => [0xD3, d]
  | .pei d => [0xD4, d]
  | .cmpDpX d => [0xD5, d]
  | .decDpX d => [0xD6, d]
  | .cmpDpIndLongY d => [0xD7, d]
  | .cld => [0xD8]
  | .cmpAbsY o => 0xD9 :: wordBytes o
  | .phx => [0xDA]
  | .stp => [0xDB]
  | .jmlInd o => 0xDC :: wordBytes o
  | .cmpAbsX o => 0xDD :: wordBytes o
  | .decAbsX o => 0xDE :: wordBytes o
  | .cmpLongX a => 0xDF :: addrBytes a
  | .cpxImm v => 0xE0 :: v.bytes
  | .sbcDpXInd d => [0xE1, d]
  | .sep k => [0xE2, k]
  | .sbcSr d => [0xE3, d]
  | .cpxDp d => [0xE4, d]
  | .sbcDp d => [0xE5, d]
  | .incDp d => [0xE6, d]
  | .sbcDpIndLong d => [0xE7, d]
  | .inx => [0xE8]
  | .sbcImm v => 0xE9 :: v.bytes
  | .nop => [0xEA]
  | .xba => [0xEB]
  | .cpxAbs o => 0xEC :: wordBytes o
  | .sbcAbs o => 0xED :: wordBytes o
  | .incAbs o => 0xEE :: wordBytes o
  | .sbcLong a => 0xEF :: addrBytes a
  | .beq r => [0xF0, r]
  | .sbcDpIndY d => [0xF1, d]
  | .sbcDpInd d => [0xF2, d]
  | .sbcSrIndY d => [0xF3, d]
  | .pea v => 0xF4 :: wordBytes v
  | .sbcDpX d => [0xF5, d]
  | .incDpX d => [0xF6, d]
  | .sbcDpIndLongY d => [0xF7, d]
  | .sed => [0xF8]
  | .sbcAbsY o => 0xF9 :: wordBytes o
  | .plx => [0xFA]
  | .xce => [0xFB]
  | .jsrIndX o => 0xFC :: wordBytes o
  | .sbcAbsX o => 0xFD :: wordBytes o
  | .incAbsX o => 0xFE :: wordBytes o
  | .sbcLongX a => 0xFF :: addrBytes a

/-- The four bytes of a table word: bit 0 is the lowest bit of the first byte, a later byte's bits count on; every bit from
`nbits` on is zero. Four bytes is the longest instruction (R92). -/
def tableBytes (nbits w : Nat) : List Byte :=
  let v := w % 2 ^ nbits
  [BitVec.ofNat 8 v, BitVec.ofNat 8 (v / 0x100), BitVec.ofNat 8 (v / 0x10000), BitVec.ofNat 8 (v / 0x1000000)]

/-- What the decoder reads from a table word, at the operand widths in force after reset (8 bits both, R45). Log 18. -/
def decodeTableWord (nbits w : Nat) : Option Instr :=
  match decode true true (tableBytes nbits w) with
  | .ok (i, _) => some i
  | .error _ => none

end Sys2Proof
end

