-- ==== Sys2Proof/Machine/Bits.lean ====
section
/-! DEFINITION. Bit-field, width and address helpers (R8, R9): the parts of an address, the two kinds of address addition
(R69), and values cut to an operand width. -/

namespace Sys2Proof

/-- `b:o`, the 24-bit address of offset `o` in bank `b` (R8). -/
def mkAddr (bank : Byte) (off : Word) : Addr := bank ++ off

/-- `bank(a) = a[23:16]` (R8). -/
def bankOf (a : Addr) : Byte := a.extractLsb' 16 8

/-- `off(a) = a[15:0]` (R8). -/
def offOf (a : Addr) : Word := a.extractLsb' 0 16

/-- The address `i` bytes further on inside the same bank: offset addition (R61, R62, R69). -/
def inBank (a : Addr) (i : Nat) : Addr := mkAddr (bankOf a) (offOf a + BitVec.ofNat 16 i)

/-- Full-address addition of an index, modulo 2^24: it may carry into the bank (R69). -/
def addIndex (a : Addr) (index : Word) : Addr := a + index.setWidth 24

/-- `sext_8(v)`: a byte sign-extended to 16 bits (R9). -/
def sext8 (v : Byte) : Word := v.signExtend 16

/-- `v & mask(w)` (R9). -/
def Width.mask (w : Width) (v : Word) : Word :=
  match w with
  | .w8 => v &&& 0x00FF
  | .w16 => v

/-- `msb(v, w) = v[w-1]` (R9). -/
def Width.msb (w : Width) (v : Word) : Bool := v.getLsbD (w.bits - 1)

/-- Write a `w`-bit value into a register: at 8 bits the high byte is kept (R21). -/
def Width.merge (w : Width) (old v : Word) : Word :=
  match w with
  | .w8 => (old &&& 0xFF00) ||| (v &&& 0x00FF)
  | .w16 => v

/-- The two bytes of a word exchanged (R172). -/
def swapBytes (v : Word) : Word := wordOf (hiByte v) (loByte v)

end Sys2Proof
end

