-- ==== Sys2Proof/Config.lean ====
section
/-! DEFINITION. What the spec leaves to the implementation: the free values (constants with no body) and the fixed choices of the model. -/

namespace Sys2Proof

/-- One access of a GDMA transfer to the Bus (R77, R368): a read, a write of a byte, or a byte read at one address and written at
another. -/
inductive BusAccess where
  | read (a : Addr)
  | write (a : Addr) (v : Byte)
  | copy (src dst : Addr)
  deriving DecidableEq, Repr

/-- What the units outside this block are told: each access made to a register or to unmapped space, but for a write that has no
effect (R74); a reset; or a change they make themselves between two steps (R7, R77, R430). -/
inductive UnitEvent where
  | read (a : Addr)
  | write (a : Addr) (v : Byte)
  | reset
  | change (n : Nat)
  deriving DecidableEq, Repr

/-- FREE VALUE: the byte the Bus answers to a read at an address where the spec gives no value, for all that the units outside
this block have been told so far, newest first (R7, D25, R74, I1, I12: `BusRead` is a parameter, an open-bus read is any byte,
drawn per read). Every such read is told to the units, so no two draws of a run are one value of this function. Log 4, safe. -/
opaque Config.busDraw : List UnitEvent → Addr → Byte

/-- FREE VALUE: the `n`-th instruction cost the budget is set to (R39, I18: any value). Log 6, safe. -/
opaque Config.stepCost : Nat → Nat

/-- FREE VALUE: what `$4200` holds after a reset, for all that the units outside this block have been told, that reset among it
(R373, I16). Log 8, safe. -/
opaque Config.resetNmitimen : List UnitEvent → Byte

/-- FREE VALUE: the Bus accesses that the transfer started by writing the channel-enable byte to `$420B` makes, for all that the
units outside this block have been told, that write and the writes to the DMA registers among it (R368, D29; the spec does
not give the channels' registers). Log 9, safe. -/
opaque Config.gdmaAccesses : List UnitEvent → List BusAccess

/-- What a memory cell that nothing has placed or written reads as: `$00`. DESIGN CHOICE, log 2, unsafe. -/
def Config.unlistedByte : Byte := 0x00

/-- RESET_A_LOW, RESET_X_LOW and RESET_Y_LOW as `State.reset` has them (R7, I2). DESIGN CHOICE, log 3, unsafe. -/
def Config.resetLow : Byte := 0x00

end Sys2Proof
end

