-- ==== Sys2Proof/Machine/State.lean ====
section
/-! DEFINITION. The state of the machine as plain data, the reasons a step can stop, and the state after reset. -/

namespace Sys2Proof.Machine

/-- The run state of the CPU (R37). -/
inductive RunState where
  | running
  | waiting
  | stopped
  deriving DecidableEq, Repr

/-- The CPU's own state: the ten registers of R20 and the hidden state of R37 to R39. -/
structure Cpu where
  /-- accumulator `A`, bytes `AL` and `AH` (R21) -/
  a : Word
  /-- index register `X` (R22) -/
  x : Word
  /-- index register `Y` (R22) -/
  y : Word
  /-- stack pointer `S` (R23) -/
  s : Word
  /-- direct page base `D` (R24) -/
  d : Word
  /-- data bank `DB` (R25) -/
  db : Byte
  /-- program bank `PB` (R25) -/
  pb : Byte
  /-- program counter `PC`, the offset of the next byte to fetch in bank `PB` (R26) -/
  pc : Word
  /-- status byte `P`, bits 7 to 0 = N V M X D I Z C (R27) -/
  p : Byte
  /-- emulation flag `E` (R29) -/
  e : Bool
  /-- running, waiting or stopped (R37) -/
  run : RunState
  /-- the NMI request latch (R38) -/
  nmiReq : Bool
  /-- the cycle budget (R39); no step reads it -/
  budget : Nat
  deriving DecidableEq, Repr

/-- A sparse memory: (address, byte) cells in canonical form (`Memory.wf`); every cell not listed reads as
`Config.unlistedByte`. -/
abbrev Memory := List Host.Cell

/-- The canonical form: addresses strictly rise, lie in the 24-bit space, and no listed byte is the one an unlisted cell
reads as. Equal memories are equal lists. -/
abbrev Memory.wf (m : Memory) : Prop :=
  m.Pairwise (fun c c' => c.1 < c'.1) ∧ ∀ c ∈ m, c.1 < 2 ^ 24 ∧ c.2 ≠ Config.unlistedByte

/-- The cartridge mapping modes (R72). -/
inductive Mapping where
  | loRom
  | hiRom
  | exHiRom
  deriving DecidableEq, Repr

/-- What answers an address (R70). The number in `wram`, `sram` and `rom` is the home address of the cell: two addresses that
name one cell have one home. -/
inductive Target where
  | wram (home : Nat)
  | sram (home : Nat)
  | rom (home : Nat)
  | mailbox (port : Fin 4)
  | ppu
  | controller1
  | controller2
  /-- a register of `$4200-$421F`, under its address there (log 13 for those of the multiply and divide units) -/
  | cpuReg (off : Nat)
  /-- the low or high byte of the product, in a register of its own (only a region of `BusParams.map` names it, log 13) -/
  | productReg (high : Bool)
  /-- the low or high byte of the remainder, in a register of its own (only a region of `BusParams.map` names it, log 13) -/
  | remainderReg (high : Bool)
  | dmaReg
  | coprocessor
  /-- a unit that the environment supplies (R7, D25; only a region of `BusParams.map` names it, log 1) -/
  | external
  | openBus
  deriving DecidableEq, Repr

/-- A region of a memory system: the addresses from `bankLo` to `bankHi` and from `offLo` to `offHi` are answered by `target`. Cells
lie byte by byte from the target's home on, those of the next bank `stride` further (R7, D25, log 1). -/
structure Region where
  bankLo : Nat
  bankHi : Nat
  offLo : Nat
  offHi : Nat
  target : Target
  stride : Nat
  deriving DecidableEq, Repr

/-- The parameters of the memory system behind the CPU (R7, D25, I12, I17, I19), which no step changes: regions that come before
the map of R70, the first that holds an address first; and for R70's own map the cartridge, by its mapping, the sizes of its
ROM and SRAM in bytes (zero: none), and whether the vector coprocessor is present (R70, R72). -/
structure BusParams where
  map : List Region
  mapping : Mapping
  romLen : Nat
  sramLen : Nat
  coprocessor : Bool
  deriving DecidableEq, Repr

/-- A cheat patch: address, replacement byte, optional compare byte (R78, the cheat hook). -/
structure Patch where
  addr : Addr
  value : Byte
  compare : Option Byte
  deriving DecidableEq, Repr

/-- The memory system behind the Bus, as far as the CPU sees it (R60, R70 to R78, R372 to R375). -/
structure Bus where
  /-- work RAM, cartridge SRAM and cartridge ROM bytes, by home address (R70, R72) -/
  mem : Memory
  /-- the parameters of the memory system (R7, D25) -/
  params : BusParams
  /-- the readable NMI flag, bit 7 of `$4212` (R372) -/
  nmiFlag : Bool
  /-- the byte last written to `$4200` (R373) -/
  nmitimen : Byte
  /-- what the audio CPU last wrote to each mailbox port (R78) -/
  fromApu : Vector Byte 4
  /-- what the CPU last wrote to each mailbox port (R78) -/
  toApu : Vector Byte 4
  /-- the controller strobe (R78) -/
  padStrobe : Bool
  /-- the controller word now (R78) -/
  padLive : Word
  /-- the latched controller word being shifted out (R78) -/
  padShift : Word
  /-- the multiplicand (R374) -/
  multA : Byte
  /-- the dividend (R375) -/
  dividend : Word
  /-- the quotient (R375) -/
  quotient : Word
  /-- the product (R374) -/
  product : Word
  /-- the remainder (R375) -/
  remainder : Word
  /-- the remainder was committed after the product: the register they share answers it (log 13) -/
  remainderLast : Bool
  /-- the cheat hook's patch table (R78) -/
  patches : List Patch
  /-- the model's own record: all that the units outside this block have been told, newest first (R7, R74, R78; log 4, log 5) -/
  unitLog : List UnitEvent
  deriving DecidableEq, Repr

/-- The parameters RESET_A_LOW, RESET_X_LOW and RESET_Y_LOW of one reset (R7, R400). -/
structure ResetLows where
  aLow : Byte
  xLow : Byte
  yLow : Byte
  deriving DecidableEq, Repr

/-- What the environment and the host can do to the machine between two steps (R430). -/
inductive EnvEvent where
  /-- RESET_EVENT with the low bytes the reset leaves (R7, R400) -/
  | reset (lows : ResetLows)
  /-- NMI_EDGE: the latch is set (R351) -/
  | nmiEdge
  /-- VBLANK starts: the NMI flag is set (R372), and with `$4200` bit 7 the NMI edge is raised (R351, R373) -/
  | vblank
  /-- IRQ_LEVEL: the level of the IRQ input from now on (R352) -/
  | irqLevel (level : Bool)
  /-- another agent or the host changes a byte of memory (R77, R430) -/
  | memory (a : Addr) (v : Byte)
  /-- the audio CPU writes a mailbox port (R78) -/
  | mailbox (port : Fin 4) (v : Byte)
  /-- the controller's word changes (R78, R430) -/
  | pad (w : Word)
  /-- the units outside this block change by themselves, and with them what they answer (R77, R430) -/
  | unitChange (n : Nat)
  /-- save-state load: the whole CPU state is replaced by a saved one (R430) -/
  | loadState (c : Cpu)
  /-- save-state load: the memory and the device registers are replaced by saved ones, which R430 leaves open (log 22) -/
  | loadBus (b : Bus)
  deriving DecidableEq, Repr

/-- The whole state: the CPU, its inputs as they stand, the memory system, and the environment's script. -/
structure State where
  /-- the CPU (R20, R37 to R39) -/
  cpu : Cpu
  /-- the level of the IRQ input (R38, R352) -/
  irqLine : Bool
  /-- a reset the host has asked for, taken at the next boundary (R353, R400) -/
  resetReq : Option ResetLows
  /-- the memory system behind the Bus (R60) -/
  bus : Bus
  /-- for each coming boundary, the events that land before it; an empty script is a quiet environment (R7, R430) -/
  env : List (List EnvEvent)
  /-- the model's own counter: how many instruction costs have been drawn (R39, I18) -/
  costDraws : Nat
  deriving DecidableEq, Repr

/-- Why the machine stops with a fault: never. No instruction faults and the Bus answers every address (R363), so the type
has no constructor. -/
inductive Fault where
  deriving DecidableEq, Repr

/-- Why a step is refused. -/
inductive Refusal where
  /-- Raised by an arm of `exec` that has no meaning yet, with the instruction's mnemonic; safe. No arm does so. -/
  | notModelled (mnemonic : String)
  /-- Raised by a step if the bytes it fetched did not decode for want of an operand byte; safe. The fetch takes as many bytes
  as the opcode asks for, so no step does so. -/
  | fetchTruncated
  deriving DecidableEq, Repr


/-- `s` with the register `a` written. -/
def State.setA (s : State) (v : Word) : State := { s with cpu := { s.cpu with a := v } }

/-- `s` with the register `x` written. -/
def State.setX (s : State) (v : Word) : State := { s with cpu := { s.cpu with x := v } }

/-- `s` with the register `y` written. -/
def State.setY (s : State) (v : Word) : State := { s with cpu := { s.cpu with y := v } }

/-- `s` with the register `s` written. -/
def State.setS (s : State) (v : Word) : State := { s with cpu := { s.cpu with s := v } }

/-- `s` with the register `d` written. -/
def State.setD (s : State) (v : Word) : State := { s with cpu := { s.cpu with d := v } }

/-- `s` with the register `db` written. -/
def State.setDB (s : State) (v : Byte) : State := { s with cpu := { s.cpu with db := v } }

/-- `s` with the register `pb` written. -/
def State.setPB (s : State) (v : Byte) : State := { s with cpu := { s.cpu with pb := v } }

/-- `s` with the register `pc` written. -/
def State.setPC (s : State) (v : Word) : State := { s with cpu := { s.cpu with pc := v } }

/-- `s` with the register `p` written. -/
def State.setP (s : State) (v : Byte) : State := { s with cpu := { s.cpu with p := v } }

/-- `s` with the register `e` written. -/
def State.setE (s : State) (v : Bool) : State := { s with cpu := { s.cpu with e := v } }

/-- `s` with the register `run` written. -/
def State.setRun (s : State) (v : RunState) : State := { s with cpu := { s.cpu with run := v } }

/-- `s` with the register `nmiReq` written. -/
def State.setNmiReq (s : State) (v : Bool) : State := { s with cpu := { s.cpu with nmiReq := v } }

/-- `s` with the register `budget` written. -/
def State.setBudget (s : State) (v : Nat) : State := { s with cpu := { s.cpu with budget := v } }

/-- `s` with the memory system replaced. -/
def State.setBus (s : State) (v : Bus) : State := { s with bus := v }

/-- The CPU right after reset (R45, R400); `pc` is the default `$8000` of a zero reset vector (R401), since no cell is listed. -/
def Cpu.reset : Cpu where
  a := Config.resetLow.setWidth 16
  x := Config.resetLow.setWidth 16
  y := Config.resetLow.setWidth 16
  s := 0x01FF
  d := 0x0000
  db := 0x00
  pb := 0x00
  pc := 0x8000
  p := 0x34
  e := true
  run := .running
  nmiReq := false
  budget := 0

/-- The memory system right after power-on: no cell listed (log 2), device registers zero (log 16), a LoROM cartridge
with 4 MiB of ROM and 512 KiB of SRAM behind R70's own map (log 10). -/
def Bus.reset : Bus where
  mem := []
  params := { map := [], mapping := .loRom, romLen := 0x400000, sramLen := 0x80000, coprocessor := false }
  nmiFlag := false
  nmitimen := 0x00
  fromApu := #v[0, 0, 0, 0]
  toApu := #v[0, 0, 0, 0]
  padStrobe := false
  padLive := 0
  padShift := 0
  multA := 0
  dividend := 0
  quotient := 0
  product := 0
  remainder := 0
  remainderLast := false
  patches := []
  unitLog := []

/-- The machine right after reset (R45, R400), with a quiet environment (log 7). -/
def State.reset : State where
  cpu := Cpu.reset
  irqLine := false
  resetReq := none
  bus := Bus.reset
  env := []
  costDraws := 0

end Sys2Proof.Machine
end

