-- ==== Sys2Proof/Machine/Memory.lean ====
section
/-! DEFINITION. Reading and writing one cell of the sparse memory; a write keeps the canonical form. -/

namespace Sys2Proof.Machine

/-- The byte of cell `k`: the listed one, or what an unlisted cell reads as (log 2). -/
def Memory.read : Memory → Nat → Byte
  | [], _ => Config.unlistedByte
  | c :: rest, k => if c.1 = k then c.2 else Memory.read rest k

/-- Write byte `v` to cell `k`: the cell is listed in address order, or dropped when `v` is what an unlisted cell reads as. -/
def Memory.write : Memory → Nat → Byte → Memory
  | [], k, v => if v = Config.unlistedByte then [] else [(k, v)]
  | c :: rest, k, v =>
    if k < c.1 then (if v = Config.unlistedByte then c :: rest else (k, v) :: c :: rest)
    else if c.1 = k then (if v = Config.unlistedByte then rest else (k, v) :: rest)
    else c :: Memory.write rest k v

end Sys2Proof.Machine
end

