-- ==== Sys2Proof/Machine/Bus.lean ====
section
/-! DEFINITION. The Bus: the decode (the regions of the parameter, R7 and D25, before the map of R70 to R74), the device registers
the spec gives (R78, R372 to R375), single-byte reads and writes (R60), GDMA (R77, R368), the cheat hook (R78), and the
multi-byte accesses built on them (R61 to R63). -/

namespace Sys2Proof.Machine

/-- The home address of LoROM SRAM byte `i` (R72): the windows are banks `$70-$7D` and then `$FE-$FF`, offsets below `$8000`,
taken in that order. PRESUMED, log 11. -/
def loRomSramHome (i : Nat) : Nat :=
  if i / 0x8000 < 14 then (0x70 + i / 0x8000) * 0x10000 + i % 0x8000 else (0xF0 + i / 0x8000) * 0x10000 + i % 0x8000

/-- The home address of HiROM or ExHiROM SRAM byte `i` (R72): banks `$20-$3F`, offsets `$6000-$7FFF`. PRESUMED, log 11. -/
def hiRomSramHome (i : Nat) : Nat := (0x20 + i / 0x2000) * 0x10000 + 0x6000 + i % 0x2000

/-- The SRAM window of a cartridge: none where the cartridge has no SRAM, else the cell "addressed modulo `sramSizeBytes`"
(R72). `i` is the place in the window. -/
def sramTarget (home : Nat → Nat) (sramLen i : Nat) : Target :=
  if sramLen = 0 then .openBus else .sram (home (i % sramLen))

/-- The place of a LoROM ROM byte in the ROM: 32 KiB of each bank, banks `$80-$FF` as `$00-$7F` (R401's general rule, PRESUMED,
log 12). -/
def loRomIndex (bank off : Nat) : Nat := bank % 0x80 * 0x8000 + (off - 0x8000)

/-- The place of a HiROM ROM byte in the ROM: 64 KiB banks, linear (R72), the upper halves of the system banks among them
(PRESUMED, log 12). -/
def hiRomIndex (bank off : Nat) : Nat := bank % 0x40 * 0x10000 + off

/-- The place of an ExHiROM ROM byte: as HiROM, with the lower banks in the extended upper half (R72; PRESUMED, log 12). -/
def exHiRomIndex (bank off : Nat) : Nat := (if bank < 0x80 then 0x400000 else 0) + bank % 0x40 * 0x10000 + off

/-- The home address of a LoROM ROM byte: its lowest Bus address, or in banks `$FE-$FF` where work RAM hides that (log 12). -/
def loRomHome (i : Nat) : Nat :=
  (if i / 0x8000 < 0x7E then i / 0x8000 else i / 0x8000 + 0x80) * 0x10000 + 0x8000 + i % 0x8000

/-- The home address of a HiROM or ExHiROM ROM byte: in banks `$C0-$FF`, then `$40-$7D`, then the upper halves of `$3E-$3F`
(log 12). -/
def hiRomHome (i : Nat) : Nat :=
  if i < 0x400000 then 0xC00000 + i else if i < 0x7E0000 then i else i - 0x400000

/-- The ROM of a cartridge: none where it has none, else the byte at the place modulo `rom_len` (R72). -/
def romTarget (home : Nat → Nat) (romLen i : Nat) : Target :=
  if romLen = 0 then .openBus else .rom (home (i % romLen))

/-- BusParams space under LoROM (R72). -/
def loRomTarget (c : BusParams) (bank off : Nat) : Target :=
  if 0x8000 ≤ off then romTarget loRomHome c.romLen (loRomIndex bank off)
  else if (0x70 ≤ bank ∧ bank ≤ 0x7D) ∨ 0xFE ≤ bank then
    sramTarget loRomSramHome c.sramLen ((bank % 0x80 - 0x70) * 0x8000 + off)
  else .openBus

/-- BusParams space under HiROM and ExHiROM (R72): banks `$40-$7D` and `$C0-$FF` linear, offsets from `$8000` on of the other
banks (R73 states bank `$00`; log 12), SRAM in banks `$20-$3F` at `$6000-$7FFF`. -/
def hiRomTarget (index : Nat → Nat → Nat) (c : BusParams) (bank off : Nat) : Target :=
  if 0x40 ≤ bank % 0x80 then romTarget hiRomHome c.romLen (index bank off)
  else if 0x8000 ≤ off then romTarget hiRomHome c.romLen (index bank off)
  else if 0x20 ≤ bank ∧ bank ≤ 0x3F ∧ 0x6000 ≤ off then
    sramTarget hiRomSramHome c.sramLen ((bank - 0x20) * 0x2000 + (off - 0x6000))
  else .openBus

/-- BusParams space under each mapping (R72). -/
def cartTarget (c : BusParams) (bank off : Nat) : Target :=
  match c.mapping with
  | .loRom => loRomTarget c bank off
  | .hiRom => hiRomTarget hiRomIndex c bank off
  | .exHiRom => hiRomTarget exHiRomIndex c bank off

/-- The offsets of the system banks `$00-$3F`, `$80-$BF` that are not cartridge, in the order of R70 as R71 corrects it. -/
def systemTarget (c : BusParams) (bank off : Nat) : Target :=
  if off < 0x2000 then .wram (0x7E0000 + off)
  else if off = 0x2140 then .mailbox 0
  else if off = 0x2141 then .mailbox 1
  else if off = 0x2142 then .mailbox 2
  else if off = 0x2143 then .mailbox 3
  else if 0x2100 ≤ off ∧ off ≤ 0x21FF then .ppu
  else if off = 0x4016 then .controller1
  else if off = 0x4017 then .controller2
  else if 0x4200 ≤ off ∧ off ≤ 0x421F then .cpuReg off
  else if 0x4300 ≤ off ∧ off ≤ 0x437F then .dmaReg
  else if c.coprocessor ∧ (0x3000 ≤ off ∧ off ≤ 0x32FF ∨ 0x6000 ≤ off ∧ off ≤ 0x7FFF) then .coprocessor
  else cartTarget c bank off

/-- The map of R70. -/
def consoleTarget (c : BusParams) (a : Addr) : Target :=
  let bank := a.toNat / 0x10000
  let off := a.toNat % 0x10000
  if bank = 0x7E ∨ bank = 0x7F then .wram a.toNat
  else if bank % 0x80 < 0x40 then systemTarget c bank off
  else cartTarget c bank off

/-- The region holds the address. -/
def Region.holds (r : Region) (a : Addr) : Bool :=
  r.bankLo ≤ a.toNat / 0x10000 && a.toNat / 0x10000 ≤ r.bankHi && r.offLo ≤ a.toNat % 0x10000 && a.toNat % 0x10000 ≤ r.offHi

/-- The target whose cell, if it names one, lies `n` bytes further on in the space of homes. -/
def Target.further (t : Target) (n : Nat) : Target :=
  match t with
  | .wram k => .wram ((k + n) % 2 ^ 24)
  | .sram k => .sram ((k + n) % 2 ^ 24)
  | .rom k => .rom ((k + n) % 2 ^ 24)
  | t => t

/-- What answers an address of the region. -/
def Region.answers (r : Region) (a : Addr) : Target :=
  r.target.further ((a.toNat / 0x10000 - r.bankLo) * r.stride + (a.toNat % 0x10000 - r.offLo))

/-- The Bus decode: the first region of the parameter that holds the address (R7, D25), else the map of R70. -/
def decodeAddr (c : BusParams) (a : Addr) : Target :=
  match c.map.find? (·.holds a) with
  | some r => r.answers a
  | none => consoleTarget c a

/-- The units outside this block are told something. -/
def Bus.tell (b : Bus) (ev : UnitEvent) : Bus := { b with unitLog := ev :: b.unitLog }

/-- A byte the spec gives no value for, read at an address: a free value, and the units are told of the read (R7, R74, I1). -/
def Bus.draw (b : Bus) (a : Addr) : Byte × Bus := (Config.busDraw b.unitLog a, b.tell (.read a))

/-- A byte that a register answers, and the units are told of the read. -/
def Bus.answer (b : Bus) (a : Addr) (v : Byte) : Byte × Bus := (v, b.tell (.read a))

/-- A free byte with the bits of `keep` replaced by those of `v`. -/
def Bus.drawAround (b : Bus) (a : Addr) (keep v : Byte) : Byte × Bus :=
  let r := b.draw a
  ((r.1 &&& ~~~keep) ||| (v &&& keep), r.2)

/-- A read of `$4016` (R78): the top bit of the latched word, and a shift left by one unless the strobe is held high. The bit
is answered in bit 0, the others are free (log 15). -/
def Bus.readController (b : Bus) (a : Addr) : Byte × Bus :=
  let r := b.drawAround a 0x01 (if b.padShift.msb then 0x01 else 0x00)
  (r.1, if b.padStrobe then r.2 else { r.2 with padShift := b.padShift <<< 1 })

/-- A write of `$4016` (R78): the strobe is bit 0, and its `1 → 0` edge latches the controller word (log 15). The
units outside this block have been told of it, so `$4017` may depend on it (log 14). -/
def Bus.writeController (b : Bus) (v : Byte) : Bus :=
  let strobe := v.getLsbD 0
  { b with padStrobe := strobe, padShift := if b.padStrobe && !strobe then b.padLive else b.padShift }

/-- The product or the remainder, whichever was committed last: the register they share (log 13). -/
def Bus.result (b : Bus) : Word := if b.remainderLast then b.remainder else b.product

/-- The low or high byte of a word. -/
def byteAt (high : Bool) (v : Word) : Byte := if high then hiByte v else loByte v

/-- A read of `$4200-$421F`: the NMI flag register answers the flag in bit 7, its other bits free, and clears it (R372); the
quotient and the product or remainder are little-endian words (R374, R375; addresses log 13); the others are free. -/
def Bus.readReg (b : Bus) (a : Addr) (off : Nat) : Byte × Bus :=
  if off = 0x4212 then
    let r := b.drawAround a 0x80 (if b.nmiFlag then 0x80 else 0x00)
    (r.1, { r.2 with nmiFlag := false })
  else if off = 0x4214 then b.answer a (loByte b.quotient)
  else if off = 0x4215 then b.answer a (hiByte b.quotient)
  else if off = 0x4216 then b.answer a (loByte b.result)
  else if off = 0x4217 then b.answer a (hiByte b.result)
  else b.draw a

/-- Commit a product: exact, unsigned (R374). -/
def Bus.multiply (b : Bus) (multB : Byte) : Bus :=
  { b with product := b.multA.setWidth 16 * multB.setWidth 16, remainderLast := false }

/-- Commit a quotient and a remainder: unsigned, with the sentinels of a zero divisor (R375). -/
def Bus.divide (b : Bus) (divisor : Byte) : Bus :=
  if divisor = 0 then { b with quotient := 0xFFFF, remainder := b.dividend, remainderLast := true }
  else
    { b with
      quotient := b.dividend / divisor.setWidth 16
      remainder := b.dividend % divisor.setWidth 16
      remainderLast := true }

/-- A write of `$4200-$421F` (R373 to R375; addresses log 13), of which the units have been told. `$4200` keeps its byte: of its
bits only bit 7 is read in this block (`State.applyEvent`); what bits 0-3 and 6 do is open (I16), and here they act through
the units that were told alone (log 14). The other registers belong to those units (log 14). -/
def Bus.writeReg (b : Bus) (off : Nat) (v : Byte) : Bus :=
  if off = 0x4200 then { b with nmitimen := v }
  else if off = 0x4202 then { b with multA := v }
  else if off = 0x4203 then b.multiply v
  else if off = 0x4204 then { b with dividend := wordOf v (hiByte b.dividend) }
  else if off = 0x4205 then { b with dividend := wordOf (loByte b.dividend) v }
  else if off = 0x4206 then b.divide v
  else b

/-- A read at an address before the cheat hook: what the target answers. -/
def Bus.readTarget (b : Bus) (a : Addr) : Target → Byte × Bus
  | .wram k => (b.mem.read k, b)
  | .sram k => (b.mem.read k, b)
  | .rom k => (b.mem.read k, b)
  | .mailbox port => b.answer a b.fromApu[port]
  | .controller1 => b.readController a
  | .cpuReg off => b.readReg a off
  | .productReg high => b.answer a (byteAt high b.product)
  | .remainderReg high => b.answer a (byteAt high b.remainder)
  | .ppu => b.draw a
  | .controller2 => b.draw a
  | .dmaReg => b.draw a
  | .coprocessor => b.draw a
  | .external => b.draw a
  | .openBus => b.draw a

/-- The cheat hook (R78): the first patch at the address whose compare byte, if any, is the byte that the target answered replaces
it. That it is the first, that the compare byte is held against the answer of a device register too, and that the read's side
effects stay when the byte is replaced are the model's choice: DESIGN CHOICE, log 17. -/
def patched (ps : List Patch) (a : Addr) (v : Byte) : Byte :=
  match ps.find? (fun p => p.addr == a && (p.compare == none || p.compare == some v)) with
  | some p => p.value
  | none => v

/-- `BusRead(a)` (R60): one byte, with the read's side effects. -/
def Bus.read (b : Bus) (a : Addr) : Byte × Bus :=
  let r := b.readTarget a (decodeAddr b.params a)
  (patched b.patches a r.1, r.2)

/-- A write as the target takes it: ROM and open bus ignore it (R72, R74), and the units outside this block are told of a write to
any register (log 14). -/
def Bus.writeTarget (b : Bus) (a : Addr) (v : Byte) : Target → Bus
  | .wram k => { b with mem := b.mem.write k v }
  | .sram k => { b with mem := b.mem.write k v }
  | .rom _ => b
  | .mailbox port => { b.tell (.write a v) with toApu := b.toApu.set port v }
  | .controller1 => (b.tell (.write a v)).writeController v
  | .cpuReg off => (b.tell (.write a v)).writeReg off v
  | .productReg _ => b.tell (.write a v)
  | .remainderReg _ => b.tell (.write a v)
  | .ppu => b.tell (.write a v)
  | .controller2 => b.tell (.write a v)
  | .dmaReg => b.tell (.write a v)
  | .coprocessor => b.tell (.write a v)
  | .external => b.tell (.write a v)
  | .openBus => b

/-- A write of a GDMA transfer: a transfer starts no other transfer (log 9). -/
def Bus.gdmaWrite (b : Bus) (a : Addr) (v : Byte) : Bus := b.writeTarget a v (decodeAddr b.params a)

/-- One access of a GDMA transfer. -/
def Bus.gdmaAccess (b : Bus) : BusAccess → Bus
  | .read a => (b.read a).2
  | .write a v => b.gdmaWrite a v
  | .copy src dst => (b.read src).2.gdmaWrite dst (b.read src).1

/-- GDMA: the channels enabled by `v` run to completion (R368, D29). What they move is a free value (log 9); with no channel
enabled nothing runs. -/
def Bus.gdma (b : Bus) (a : Addr) (v : Byte) : Bus :=
  let b := b.tell (.write a v)
  if v = 0 then b else (Config.gdmaAccesses b.unitLog).foldl Bus.gdmaAccess b

/-- The address starts GDMA when it is written: `$420B` of a system bank (R77). -/
def isGdmaTrigger (c : BusParams) (a : Addr) : Bool := decodeAddr c a == .cpuReg 0x420B

/-- `BusWrite(a, v)` (R60): one byte, with the write's side effects, the whole GDMA transfer among them (D29). -/
def Bus.write (b : Bus) (a : Addr) (v : Byte) : Bus :=
  if isGdmaTrigger b.params a then b.gdma a v else b.writeTarget a v (decodeAddr b.params a)

/-- The home of the cell an address names, if it names one: work RAM, SRAM or ROM. -/
def cellOf (c : BusParams) (a : Addr) : Option Nat :=
  match decodeAddr c a with
  | .wram k => some k
  | .sram k => some k
  | .rom k => some k
  | _ => none

/-- The home of the cell a store to the address changes, if it changes one: work RAM or SRAM. -/
def ramCellOf (c : BusParams) (a : Addr) : Option Nat :=
  match decodeAddr c a with
  | .wram k => some k
  | .sram k => some k
  | _ => none

/-- Another agent or the host puts a byte into the cell an address names; ROM too, as a cartridge's insertion does (R430). -/
def Bus.place (b : Bus) (a : Addr) (v : Byte) : Bus :=
  match cellOf b.params a with
  | some k => { b with mem := b.mem.write k v }
  | none => b

/-- The memory and the device registers of a saved Bus. The parameters and the cheat patches stay, and so does the record of what the
units outside this block have been told, which is no part of a saved state (log 22). -/
def Bus.loaded (b saved : Bus) : Bus := { saved with params := b.params, patches := b.patches, unitLog := b.unitLog }

/-- `MemRead(a, 2)`: low byte first, both in the bank of `a` (R61, R62). -/
def Bus.read16 (b : Bus) (a : Addr) : Word × Bus :=
  let lo := b.read (inBank a 0)
  let hi := lo.2.read (inBank a 1)
  (wordOf lo.1 hi.1, hi.2)

/-- `MemRead(a, 3)`: lowest offset first, all in the bank of `a` (R61, R62). -/
def Bus.read24 (b : Bus) (a : Addr) : Addr × Bus :=
  let lo := b.read (inBank a 0)
  let mid := lo.2.read (inBank a 1)
  let hi := mid.2.read (inBank a 2)
  (addrOf lo.1 mid.1 hi.1, hi.2)

/-- `MemRead(a, w/8)` for an operand width (R61). -/
def Bus.readW (b : Bus) (w : Width) (a : Addr) : Word × Bus :=
  match w with
  | .w8 => let r := b.read a; (r.1.setWidth 16, r.2)
  | .w16 => b.read16 a

/-- `MemWrite(a, 2, v)`: low byte first, both in the bank of `a` (R63). -/
def Bus.write16 (b : Bus) (a : Addr) (v : Word) : Bus :=
  (b.write (inBank a 0) (loByte v)).write (inBank a 1) (hiByte v)

/-- `MemWrite(a, w/8, v)` for an operand width (R63). -/
def Bus.writeW (b : Bus) (w : Width) (a : Addr) (v : Word) : Bus :=
  match w with
  | .w8 => b.write a (loByte v)
  | .w16 => b.write16 a v

end Sys2Proof.Machine
end

