-- ==== Sys2Proof/Machine/Flags.lean ====
section
/-! DEFINITION. The status byte's flags (R27), the operand widths they give (R9, R30), and every flag computation: N and Z,
binary and decimal addition and subtraction (R181 to R183), compare (R186), shifts (R216 to R219). -/

namespace Sys2Proof.Machine

/-- The eight flags of `P` (R27). -/
inductive Flag where
  | c
  | z
  | i
  | d
  | x
  | m
  | v
  | n
  deriving DecidableEq, Repr

/-- The bit position of a flag (R27). -/
def Flag.bit : Flag → Nat
  | .c => 0
  | .z => 1
  | .i => 2
  | .d => 3
  | .x => 4
  | .m => 5
  | .v => 6
  | .n => 7

/-- `P.<flag>` (R9). -/
def flagGet (p : Byte) (f : Flag) : Bool := p.getLsbD f.bit

/-- `P.<flag> <- v` (R9). -/
def flagSet (p : Byte) (f : Flag) (v : Bool) : Byte :=
  if v then p ||| (0x01#8 <<< f.bit) else p &&& ~~~(0x01#8 <<< f.bit)

/-- `m8 = (E = 1) or (P.M = 1)` (R9). -/
def Cpu.m8 (c : Cpu) : Bool := c.e || flagGet c.p .m

/-- `x8 = (E = 1) or (P.X = 1)` (R9). -/
def Cpu.x8 (c : Cpu) : Bool := c.e || flagGet c.p .x

/-- `mw`: the width of accumulator and memory operands (R9, R30). -/
def Cpu.mw (c : Cpu) : Width := if c.m8 then .w8 else .w16

/-- `xw`: the width of index operands (R9, R30). -/
def Cpu.xw (c : Cpu) : Width := if c.x8 then .w8 else .w16

/-- `SetNZ(v, w)` on a status byte (R9). -/
def setNZ (w : Width) (v : Word) (p : Byte) : Byte := flagSet (flagSet p .n (w.msb v)) .z (w.mask v == 0)

/-- What an addition or subtraction gives: the result, the carry and the signed overflow. -/
structure AluOut where
  r : Word
  c : Bool
  v : Bool
  deriving DecidableEq, Repr

/-- `(~(a ^ b) & (a ^ r))[w-1]`: the source's overflow formula (R181), `r` the unbounded sum. -/
def overflowOf (w : Width) (a b : Word) (r : Nat) : Bool :=
  !(w.msb a ^^ w.msb b) && (w.msb a ^^ r.testBit (w.bits - 1))

/-- `AddBin(a, b, c, w)` (R181). -/
def addBin (w : Width) (a b : Word) (c : Bool) : AluOut :=
  let r := a.toNat + b.toNat + c.toNat
  { r := BitVec.ofNat 16 (r % 2 ^ w.bits), c := decide (2 ^ w.bits ≤ r), v := overflowOf w a b r }

/-- The digits of a decimal operand from the lowest: two at 8 bits, four at 16 (R182). -/
def Width.digits : Width → List Nat
  | .w8 => [0, 1]
  | .w16 => [0, 1, 2, 3]

/-- The running values of the decimal algorithms: the partial result in unbounded two's complement, the carry between digits,
and V (R182, R183). -/
structure DecAcc where
  r : Int
  cy : Bool
  v : Bool
  deriving DecidableEq, Repr

/-- `x & ($F << sh)`: a digit in its place (R182). -/
def digitAt (x : Word) (sh : Nat) : Nat := x.toNat / 2 ^ sh % 16 * 2 ^ sh

/-- The uncorrected sum of one digit: both digits, the carry, and the low digits so far (R182, R183). It is never negative. -/
def digitSum (a b : Word) (acc : DecAcc) (sh : Nat) : Nat :=
  digitAt a sh + digitAt b sh + acc.cy.toNat * 2 ^ sh + (acc.r % 2 ^ sh).toNat

/-- V is sampled at the top digit, before its correction (R182, R183, D19). -/
def digitV (w : Width) (a b : Word) (acc : DecAcc) (k r : Nat) : Bool :=
  if 4 * k + 4 = w.bits then overflowOf w a b r else acc.v

/-- One round of `AddDec`: a digit above nine is corrected by six (R182). -/
def addDecDigit (w : Width) (a b : Word) (acc : DecAcc) (k : Nat) : DecAcc :=
  let sh := 4 * k
  let r := digitSum a b acc sh
  let r' : Int := if 0xA * 2 ^ sh - 1 < r then r + 6 * 2 ^ sh else r
  { r := r', cy := decide (2 ^ (sh + 4) - 1 < r'), v := digitV w a b acc k r }

/-- One round of `SubDec` on the complemented operand: a digit that gave no carry is corrected by six downward (R183). -/
def subDecDigit (w : Width) (a b : Word) (acc : DecAcc) (k : Nat) : DecAcc :=
  let sh := 4 * k
  let r := digitSum a b acc sh
  let r' : Int := if r ≤ 2 ^ (sh + 4) - 1 then (r : Int) - 6 * 2 ^ sh else r
  { r := r', cy := decide (2 ^ (sh + 4) - 1 < r'), v := digitV w a b acc k r }

/-- `(r & mask(w), cy, V)`: what a decimal algorithm returns (R182, R183). -/
def DecAcc.out (w : Width) (acc : DecAcc) : AluOut :=
  { r := BitVec.ofNat 16 (acc.r % 2 ^ w.bits).toNat, c := acc.cy, v := acc.v }

/-- `AddDec(a, b, c, w)` (R182). -/
def addDec (w : Width) (a b : Word) (c : Bool) : AluOut :=
  ((Width.digits w).foldl (addDecDigit w a b) { r := 0, cy := c, v := false }).out w

/-- `SubDec(a, b, c, w)` (R183): `b' = ~b & mask(w)`. -/
def subDec (w : Width) (a b : Word) (c : Bool) : AluOut :=
  ((Width.digits w).foldl (subDecDigit w a (w.mask (~~~b))) { r := 0, cy := c, v := false }).out w

/-- The sum of ADC: binary or decimal as `P.D` says (R184). -/
def adcOut (w : Width) (p : Byte) (a op : Word) : AluOut :=
  if flagGet p .d then addDec w a op (flagGet p .c) else addBin w a op (flagGet p .c)

/-- The difference of SBC: binary on the complemented operand, or decimal, as `P.D` says (R185). -/
def sbcOut (w : Width) (p : Byte) (a op : Word) : AluOut :=
  if flagGet p .d then subDec w a op (flagGet p .c) else addBin w a (w.mask (~~~op)) (flagGet p .c)

/-- The flags of ADC and SBC: C, V, then N and Z from the result (R184, R185). -/
def aluFlags (w : Width) (out : AluOut) (p : Byte) : Byte := setNZ w out.r (flagSet (flagSet p .c out.c) .v out.v)

/-- `Compare(reg, op, w)`: C from the unsigned comparison, N and Z from the difference (R186). -/
def compareFlags (w : Width) (reg op : Word) (p : Byte) : Byte :=
  setNZ w (w.mask (reg - op)) (flagSet p .c (decide (op.toNat ≤ reg.toNat)))

/-- BIT: Z from the conjunction with the accumulator (R213). -/
def bitZ (w : Width) (a op : Word) (p : Byte) : Byte := flagSet p .z (w.mask a &&& op == 0)

/-- BIT on memory: N and V from the operand's two top bits (R213). -/
def bitNV (w : Width) (op : Word) (p : Byte) : Byte :=
  flagSet (flagSet p .n (w.msb op)) .v (op.getLsbD (w.bits - 2))

/-- A read-modify-write result and the status byte after it. -/
abbrev RmwOut := Word × Byte

/-- INC (R190). -/
def incOut (w : Width) (v : Word) (p : Byte) : RmwOut := let r := w.mask (v + 1); (r, setNZ w r p)

/-- DEC (R191). -/
def decOut (w : Width) (v : Word) (p : Byte) : RmwOut := let r := w.mask (v - 1); (r, setNZ w r p)

/-- ASL (R216). -/
def aslOut (w : Width) (v : Word) (p : Byte) : RmwOut :=
  let r := w.mask (v <<< 1)
  (r, setNZ w r (flagSet p .c (w.msb v)))

/-- LSR (R217). -/
def lsrOut (w : Width) (v : Word) (p : Byte) : RmwOut :=
  let r := v >>> 1
  (r, setNZ w r (flagSet p .c (v.getLsbD 0)))

/-- ROL: the old carry enters bit 0 (R218). -/
def rolOut (w : Width) (v : Word) (p : Byte) : RmwOut :=
  let r := w.mask ((v <<< 1) ||| (if flagGet p .c then 1 else 0))
  (r, setNZ w r (flagSet p .c (w.msb v)))

/-- ROR: the old carry enters the top bit (R219). -/
def rorOut (w : Width) (v : Word) (p : Byte) : RmwOut :=
  let r := (v >>> 1) ||| (if flagGet p .c then 0x0001#16 <<< (w.bits - 1) else 0)
  (r, setNZ w r (flagSet p .c (v.getLsbD 0)))

/-- TSB: Z from the old value, the accumulator's bits set (R214). -/
def tsbOut (w : Width) (a v : Word) (p : Byte) : RmwOut := (v ||| w.mask a, bitZ w a v p)

/-- TRB: Z from the old value, the accumulator's bits cleared (R215). -/
def trbOut (w : Width) (a v : Word) (p : Byte) : RmwOut := (w.mask (v &&& ~~~(w.mask a)), bitZ w a v p)

end Sys2Proof.Machine
end

