-- ==== Sys2Proof/Machine/Operands.lean ====
section
/-! DEFINITION. Every operand form: the addressing modes with an effective address (R101 to R115), immediates (R100), the
accumulator form of read-modify-write (R116), relative targets (R118, R119) and control-transfer targets (R121 to R123). -/

namespace Sys2Proof.Machine

/-- The memory operand forms, each with its operand bytes (R101 to R115). -/
inductive MemMode where
  | abs (o : Word)
  | absX (o : Word)
  | absY (o : Word)
  | long (a : Addr)
  | longX (a : Addr)
  | dp (d : Byte)
  | dpX (d : Byte)
  | dpY (d : Byte)
  | dpInd (d : Byte)
  | dpIndLong (d : Byte)
  | dpIndY (d : Byte)
  | dpIndLongY (d : Byte)
  | dpXInd (d : Byte)
  | sr (d : Byte)
  | srIndY (d : Byte)
  deriving DecidableEq, Repr

/-- An operand that is read: an immediate or a memory operand. -/
inductive Operand where
  | imm (v : Imm)
  | mem (m : MemMode)
  deriving DecidableEq, Repr

/-- A read-modify-write operand: the accumulator (R116) or a memory operand. -/
inductive RmwOperand where
  | acc
  | mem (m : MemMode)
  deriving DecidableEq, Repr

/-- The direct page address `$00:((D + d + index) & $FFFF)` (R106 to R108). -/
def dpAddr (c : Cpu) (d : Byte) (index : Word) : Addr := mkAddr 0x00 (c.d + d.setWidth 16 + index)

/-- The stack relative address `$00:((S + s) & $FFFF)` (R114). -/
def srAddr (c : Cpu) (d : Byte) : Addr := mkAddr 0x00 (c.s + d.setWidth 16)

/-- The effective address of a memory operand and the Bus after its pointer reads (R101 to R115). Only the indirect forms
touch the Bus. -/
def MemMode.ea (m : MemMode) (c : Cpu) (b : Bus) : Addr × Bus :=
  match m with
  | .abs o => (mkAddr c.db o, b)
  | .absX o => (addIndex (mkAddr c.db o) c.x, b)
  | .absY o => (addIndex (mkAddr c.db o) c.y, b)
  | .long a => (a, b)
  | .longX a => (addIndex a c.x, b)
  | .dp d => (dpAddr c d 0, b)
  | .dpX d => (dpAddr c d c.x, b)
  | .dpY d => (dpAddr c d c.y, b)
  | .dpInd d => let p := b.read16 (dpAddr c d 0); (mkAddr c.db p.1, p.2)
  | .dpIndLong d => b.read24 (dpAddr c d 0)
  | .dpIndY d => let p := b.read16 (dpAddr c d 0); (addIndex (mkAddr c.db p.1) c.y, p.2)
  | .dpIndLongY d => let p := b.read24 (dpAddr c d 0); (addIndex p.1 c.y, p.2)
  | .dpXInd d => let p := b.read16 (dpAddr c d c.x); (mkAddr c.db p.1, p.2)
  | .sr d => (srAddr c d, b)
  | .srIndY d => let p := b.read16 (srAddr c d); (addIndex (mkAddr c.db p.1) c.y, p.2)

/-- `Load(w)`: the immediate, or `MemRead(EA, w/8)` (spec/40_load_store.md), and the Bus after it. An immediate of the other
width cannot be fetched; it is cut to the width (log 19). -/
def Operand.load (o : Operand) (w : Width) (c : Cpu) (b : Bus) : Word × Bus :=
  match o with
  | .imm v => (w.mask v.word, b)
  | .mem m => let e := m.ea c b; e.2.readW w e.1

/-- `Store(w, v)`: `MemWrite(EA, w/8, v)` (spec/40_load_store.md), and the Bus after it. -/
def MemMode.store (m : MemMode) (w : Width) (v : Word) (c : Cpu) (b : Bus) : Bus :=
  let e := m.ea c b
  e.2.writeW w e.1 v

/-- `rel8`: the target of a branch, `PC` being the address of the next instruction (R118). -/
def rel8Target (c : Cpu) (r : Byte) : Word := c.pc + sext8 r

/-- `rel16`: the target of BRL and the value of PER (R119). -/
def rel16Target (c : Cpu) (r : Word) : Word := c.pc + r

/-- `(abs)`: the jump target read through a pointer in bank `$00` (R121). -/
def indTarget (o : Word) (b : Bus) : Word × Bus := b.read16 (mkAddr 0x00 o)

/-- `(abs,X)`: the jump target read through a pointer in bank `PB`, the index added in the bank (R122). -/
def indXTarget (o : Word) (c : Cpu) (b : Bus) : Word × Bus := b.read16 (mkAddr c.pb (o + c.x))

/-- `[abs]`: the long jump target read through a pointer in bank `$00` (R123). -/
def indLongTarget (o : Word) (b : Bus) : Addr × Bus := b.read24 (mkAddr 0x00 o)

end Sys2Proof.Machine
end

