-- ==== Sys2Proof/Machine/Ops.lean ====
section
/-! DEFINITION. The named operations shared by the meanings: register writes at a width, loads, stores and read-modify-write,
the width discipline (R31), the stack (R33 to R36), interrupt entry (R356 to R358), the return from it (R322, R361), and
reset (R400). -/

namespace Sys2Proof.Machine

/-- Write a `w`-bit result to the accumulator: `AH` is kept at 8 bits (R21). -/
def State.writeA (s : State) (w : Width) (v : Word) : State := s.setA (w.merge s.cpu.a v)

/-- `SetNZ(v, w)` (R9). -/
def State.flagsNZ (s : State) (w : Width) (v : Word) : State := s.setP (setNZ w v s.cpu.p)

/-- The accumulator as an operand of width `mw`: `A & mask(mw)`. -/
def State.accOperand (s : State) : Word := s.cpu.mw.mask s.cpu.a

/-- `Load(w)` from the state: the value and the state after the reads. -/
def State.load (s : State) (o : Operand) (w : Width) : Word × State :=
  let r := o.load w s.cpu s.bus
  (r.1, s.setBus r.2)

/-- `Store(w, v)`. -/
def State.store (s : State) (m : MemMode) (w : Width) (v : Word) : State := s.setBus (m.store w v s.cpu s.bus)

/-- A read-modify-write at width `mw` (R64, R116): one read, the computation, one write, and the status byte it gives. -/
def State.rmw (s : State) (f : Width → Word → Byte → RmwOut) (o : RmwOperand) : State :=
  let w := s.cpu.mw
  match o with
  | .acc =>
    let out := f w s.accOperand s.cpu.p
    (s.writeA w out.1).setP out.2
  | .mem m =>
    let e := m.ea s.cpu s.bus
    let r := e.2.readW w e.1
    let out := f w r.1 s.cpu.p
    (s.setBus (r.2.writeW w e.1 out.1)).setP out.2

/-- `S` as it is written: with `E = 1` its high byte is forced to `$01` (R23, R33, R34). -/
def stackPtr (e : Bool) (v : Word) : Word := if e then 0x0100 ||| (v &&& 0x00FF) else v

/-- `WidthDiscipline()` (R31). -/
def State.widthDiscipline (s : State) : State :=
  let s1 := if s.cpu.m8 then s.setA (s.cpu.a &&& 0x00FF) else s
  let s2 := if s1.cpu.x8 then (s1.setX (s1.cpu.x &&& 0x00FF)).setY (s1.cpu.y &&& 0x00FF) else s1
  s2.setS (stackPtr s2.cpu.e s2.cpu.s)

/-- `Push8(v)`: write, then decrement (R33). -/
def State.push8 (s : State) (v : Byte) : State :=
  (s.setBus (s.bus.write (mkAddr 0x00 s.cpu.s) v)).setS (stackPtr s.cpu.e (s.cpu.s - 1))

/-- `Pull8()`: increment, then read (R34). -/
def State.pull8 (s : State) : Byte × State :=
  let sp := stackPtr s.cpu.e (s.cpu.s + 1)
  let r := s.bus.read (mkAddr 0x00 sp)
  (r.1, (s.setBus r.2).setS sp)

/-- `Push16(v)`: high byte first, each byte wrapping on its own (R35). -/
def State.push16 (s : State) (v : Word) : State := (s.push8 (hiByte v)).push8 (loByte v)

/-- `Pull16()`: low byte first, each byte wrapping on its own (R36). -/
def State.pull16 (s : State) : Word × State :=
  let lo := s.pull8
  let hi := lo.2.pull8
  (wordOf lo.1 hi.1, hi.2)

/-- Push at a width: one byte or two (R270, R272). -/
def State.pushW (s : State) (w : Width) (v : Word) : State :=
  match w with
  | .w8 => s.push8 (loByte v)
  | .w16 => s.push16 v

/-- Pull at a width: one byte or two (R277, R279). -/
def State.pullW (s : State) (w : Width) : Word × State :=
  match w with
  | .w8 => let r := s.pull8; (r.1.setWidth 16, r.2)
  | .w16 => s.pull16

/-- The four causes of interrupt entry (R356). -/
inductive IntKind where
  | nmi
  | irq
  | brk
  | cop
  deriving DecidableEq, Repr

/-- `Vector(kind, E)`: the offset in bank `$00` of the vector word (R358). -/
def vectorOf (kind : IntKind) (e : Bool) : Word :=
  match kind, e with
  | .cop, false => 0xFFE4
  | .brk, false => 0xFFE6
  | .nmi, false => 0xFFEA
  | .irq, false => 0xFFEE
  | .cop, true => 0xFFF4
  | .nmi, true => 0xFFFA
  | .brk, true => 0xFFFE
  | .irq, true => 0xFFFE

/-- `StatusImage(kind)`: the status byte pushed by interrupt entry (R357). -/
def statusImage (kind : IntKind) (e : Bool) (p : Byte) : Byte :=
  match kind, e with
  | _, false => p
  | .brk, true => p ||| 0x10
  | .cop, true => p ||| 0x10
  | .nmi, true => p &&& 0xEF
  | .irq, true => p &&& 0xEF

/-- `Interrupt(kind)` (R356): push PB in native mode, PC, the status image; set I, clear D; an NMI clears its latch; go to the
vector's word in bank `$00`. -/
def State.interrupt (s : State) (kind : IntKind) : State :=
  let s1 := if s.cpu.e then s else s.push8 s.cpu.pb
  let s2 := (s1.push16 s.cpu.pc).push8 (statusImage kind s.cpu.e s.cpu.p)
  let s3 := s2.setP (flagSet (flagSet s.cpu.p .i true) .d false)
  let s4 := if kind = .nmi then s3.setNmiReq false else s3
  let v := s4.bus.read16 (mkAddr 0x00 (vectorOf kind s.cpu.e))
  ((s4.setBus v.2).setPB 0x00).setPC v.1

/-- The return from an interrupt (R322, R361): pull P, then PC, then in native mode PB, and run the width discipline. -/
def State.returnFromInterrupt (s : State) : State :=
  let p := s.pull8
  let pc := p.2.pull16
  let s1 := (pc.2.setP p.1).setPC pc.1
  let s2 := if s.cpu.e then s1 else (let pb := s1.pull8; pb.2.setPB pb.1)
  s2.widthDiscipline

/-- The status byte after reset: M, X and I set (R45). -/
def resetP : Byte := 0x34

/-- The program counter of a reset vector: `$8000` where the word is zero (R401). -/
def resetPC (v : Word) : Word := if v = 0 then 0x8000 else v

/-- `Reset()` (R400), with the low bytes RESET_A_LOW, RESET_X_LOW, RESET_Y_LOW of this reset (R7). What `$4200` holds
afterwards is a free value (I16, log 8). -/
def State.resetCpu (s : State) (lows : ResetLows) : State :=
  let v := s.bus.read16 (mkAddr 0x00 0xFFFC)
  let told := v.2.tell .reset
  { s with
    cpu :=
      { a := lows.aLow.setWidth 16, x := lows.xLow.setWidth 16, y := lows.yLow.setWidth 16, s := 0x01FF, d := 0x0000,
        db := 0x00, pb := 0x00, pc := resetPC v.1, p := resetP, e := true, run := .running, nmiReq := false, budget := 0 }
    bus := { told with nmitimen := Config.resetNmitimen told.unitLog }
    resetReq := none }

end Sys2Proof.Machine
end

