-- ==== Sys2Proof/Machine/Arithmetic.lean ====
section
/-! DEFINITION. Arithmetic, compare, increment and decrement (R180 to R196). -/

namespace Sys2Proof.Machine

/-- ADC (R184). -/
def adcOp (s : State) (o : Operand) : State :=
  let r := s.load o s.cpu.mw
  let out := adcOut s.cpu.mw s.cpu.p s.accOperand r.1
  (r.2.writeA s.cpu.mw out.r).setP (aluFlags s.cpu.mw out s.cpu.p)

/-- SBC (R185). -/
def sbcOp (s : State) (o : Operand) : State :=
  let r := s.load o s.cpu.mw
  let out := sbcOut s.cpu.mw s.cpu.p s.accOperand r.1
  (r.2.writeA s.cpu.mw out.r).setP (aluFlags s.cpu.mw out s.cpu.p)

/-- Compare a register with an operand at a width (R186). -/
def compareOp (s : State) (w : Width) (reg : Word) (o : Operand) : State :=
  let r := s.load o w
  r.2.setP (compareFlags w (w.mask reg) r.1 s.cpu.p)

/-- CMP (R187). -/
def cmpOp (s : State) (o : Operand) : State := compareOp s s.cpu.mw s.cpu.a o

/-- CPX (R188). -/
def cpxOp (s : State) (o : Operand) : State := compareOp s s.cpu.xw s.cpu.x o

/-- CPY (R189). -/
def cpyOp (s : State) (o : Operand) : State := compareOp s s.cpu.xw s.cpu.y o

/-- INC (R190). -/
def incOp (s : State) (o : RmwOperand) : State := s.rmw incOut o

/-- DEC (R191). -/
def decOp (s : State) (o : RmwOperand) : State := s.rmw decOut o

/-- INX and DEX: add to X modulo the index width (R192, R194). -/
def stepX (s : State) (delta : Word) : State :=
  let r := s.cpu.xw.mask (s.cpu.x + delta)
  (s.setX r).flagsNZ s.cpu.xw r

/-- INY and DEY: add to Y modulo the index width (R193, R195). -/
def stepY (s : State) (delta : Word) : State :=
  let r := s.cpu.xw.mask (s.cpu.y + delta)
  (s.setY r).flagsNZ s.cpu.xw r

/-- `61` ADC (dp,X) (R184). -/
def execAdcDpXInd (d : Byte) (s : State) : Host.Outcome State Fault Refusal := .next (adcOp s (.mem (.dpXInd d)))

/-- `63` ADC sr,S (R184). -/
def execAdcSr (d : Byte) (s : State) : Host.Outcome State Fault Refusal := .next (adcOp s (.mem (.sr d)))

/-- `65` ADC dp (R184). -/
def execAdcDp (d : Byte) (s : State) : Host.Outcome State Fault Refusal := .next (adcOp s (.mem (.dp d)))

/-- `67` ADC [dp] (R184). -/
def execAdcDpIndLong (d : Byte) (s : State) : Host.Outcome State Fault Refusal := .next (adcOp s (.mem (.dpIndLong d)))

/-- `69` ADC #imm (R184). -/
def execAdcImm (v : Imm) (s : State) : Host.Outcome State Fault Refusal := .next (adcOp s (.imm v))

/-- `6D` ADC abs (R184). -/
def execAdcAbs (o : Word) (s : State) : Host.Outcome State Fault Refusal := .next (adcOp s (.mem (.abs o)))

/-- `6F` ADC long (R184). -/
def execAdcLong (a : Addr) (s : State) : Host.Outcome State Fault Refusal := .next (adcOp s (.mem (.long a)))

/-- `71` ADC (dp),Y (R184). -/
def execAdcDpIndY (d : Byte) (s : State) : Host.Outcome State Fault Refusal := .next (adcOp s (.mem (.dpIndY d)))

/-- `72` ADC (dp) (R184). -/
def execAdcDpInd (d : Byte) (s : State) : Host.Outcome State Fault Refusal := .next (adcOp s (.mem (.dpInd d)))

/-- `73` ADC (sr,S),Y (R184). -/
def execAdcSrIndY (d : Byte) (s : State) : Host.Outcome State Fault Refusal := .next (adcOp s (.mem (.srIndY d)))

/-- `75` ADC dp,X (R184). -/
def execAdcDpX (d : Byte) (s : State) : Host.Outcome State Fault Refusal := .next (adcOp s (.mem (.dpX d)))

/-- `77` ADC [dp],Y (R184). -/
def execAdcDpIndLongY (d : Byte) (s : State) : Host.Outcome State Fault Refusal := .next (adcOp s (.mem (.dpIndLongY d)))

/-- `79` ADC abs,Y (R184). -/
def execAdcAbsY (o : Word) (s : State) : Host.Outcome State Fault Refusal := .next (adcOp s (.mem (.absY o)))

/-- `7D` ADC abs,X (R184). -/
def execAdcAbsX (o : Word) (s : State) : Host.Outcome State Fault Refusal := .next (adcOp s (.mem (.absX o)))

/-- `7F` ADC long,X (R184). -/
def execAdcLongX (a : Addr) (s : State) : Host.Outcome State Fault Refusal := .next (adcOp s (.mem (.longX a)))

/-- `E1` SBC (dp,X) (R185). -/
def execSbcDpXInd (d : Byte) (s : State) : Host.Outcome State Fault Refusal := .next (sbcOp s (.mem (.dpXInd d)))

/-- `E3` SBC sr,S (R185). -/
def execSbcSr (d : Byte) (s : State) : Host.Outcome State Fault Refusal := .next (sbcOp s (.mem (.sr d)))

/-- `E5` SBC dp (R185). -/
def execSbcDp (d : Byte) (s : State) : Host.Outcome State Fault Refusal := .next (sbcOp s (.mem (.dp d)))

/-- `E7` SBC [dp] (R185). -/
def execSbcDpIndLong (d : Byte) (s : State) : Host.Outcome State Fault Refusal := .next (sbcOp s (.mem (.dpIndLong d)))

/-- `E9` SBC #imm (R185). -/
def execSbcImm (v : Imm) (s : State) : Host.Outcome State Fault Refusal := .next (sbcOp s (.imm v))

/-- `ED` SBC abs (R185). -/
def execSbcAbs (o : Word) (s : State) : Host.Outcome State Fault Refusal := .next (sbcOp s (.mem (.abs o)))

/-- `EF` SBC long (R185). -/
def execSbcLong (a : Addr) (s : State) : Host.Outcome State Fault Refusal := .next (sbcOp s (.mem (.long a)))

/-- `F1` SBC (dp),Y (R185). -/
def execSbcDpIndY (d : Byte) (s : State) : Host.Outcome State Fault Refusal := .next (sbcOp s (.mem (.dpIndY d)))

/-- `F2` SBC (dp) (R185). -/
def execSbcDpInd (d : Byte) (s : State) : Host.Outcome State Fault Refusal := .next (sbcOp s (.mem (.dpInd d)))

/-- `F3` SBC (sr,S),Y (R185). -/
def execSbcSrIndY (d : Byte) (s : State) : Host.Outcome State Fault Refusal := .next (sbcOp s (.mem (.srIndY d)))

/-- `F5` SBC dp,X (R185). -/
def execSbcDpX (d : Byte) (s : State) : Host.Outcome State Fault Refusal := .next (sbcOp s (.mem (.dpX d)))

/-- `F7` SBC [dp],Y (R185). -/
def execSbcDpIndLongY (d : Byte) (s : State) : Host.Outcome State Fault Refusal := .next (sbcOp s (.mem (.dpIndLongY d)))

/-- `F9` SBC abs,Y (R185). -/
def execSbcAbsY (o : Word) (s : State) : Host.Outcome State Fault Refusal := .next (sbcOp s (.mem (.absY o)))

/-- `FD` SBC abs,X (R185). -/
def execSbcAbsX (o : Word) (s : State) : Host.Outcome State Fault Refusal := .next (sbcOp s (.mem (.absX o)))

/-- `FF` SBC long,X (R185). -/
def execSbcLongX (a : Addr) (s : State) : Host.Outcome State Fault Refusal := .next (sbcOp s (.mem (.longX a)))

/-- `C1` CMP (dp,X) (R187). -/
def execCmpDpXInd (d : Byte) (s : State) : Host.Outcome State Fault Refusal := .next (cmpOp s (.mem (.dpXInd d)))

/-- `C3` CMP sr,S (R187). -/
def execCmpSr (d : Byte) (s : State) : Host.Outcome State Fault Refusal := .next (cmpOp s (.mem (.sr d)))

/-- `C5` CMP dp (R187). -/
def execCmpDp (d : Byte) (s : State) : Host.Outcome State Fault Refusal := .next (cmpOp s (.mem (.dp d)))

/-- `C7` CMP [dp] (R187). -/
def execCmpDpIndLong (d : Byte) (s : State) : Host.Outcome State Fault Refusal := .next (cmpOp s (.mem (.dpIndLong d)))

/-- `C9` CMP #imm (R187). -/
def execCmpImm (v : Imm) (s : State) : Host.Outcome State Fault Refusal := .next (cmpOp s (.imm v))

/-- `CD` CMP abs (R187). -/
def execCmpAbs (o : Word) (s : State) : Host.Outcome State Fault Refusal := .next (cmpOp s (.mem (.abs o)))

/-- `CF` CMP long (R187). -/
def execCmpLong (a : Addr) (s : State) : Host.Outcome State Fault Refusal := .next (cmpOp s (.mem (.long a)))

/-- `D1` CMP (dp),Y (R187). -/
def execCmpDpIndY (d : Byte) (s : State) : Host.Outcome State Fault Refusal := .next (cmpOp s (.mem (.dpIndY d)))

/-- `D2` CMP (dp) (R187). -/
def execCmpDpInd (d : Byte) (s : State) : Host.Outcome State Fault Refusal := .next (cmpOp s (.mem (.dpInd d)))

/-- `D3` CMP (sr,S),Y (R187). -/
def execCmpSrIndY (d : Byte) (s : State) : Host.Outcome State Fault Refusal := .next (cmpOp s (.mem (.srIndY d)))

/-- `D5` CMP dp,X (R187). -/
def execCmpDpX (d : Byte) (s : State) : Host.Outcome State Fault Refusal := .next (cmpOp s (.mem (.dpX d)))

/-- `D7` CMP [dp],Y (R187). -/
def execCmpDpIndLongY (d : Byte) (s : State) : Host.Outcome State Fault Refusal := .next (cmpOp s (.mem (.dpIndLongY d)))

/-- `D9` CMP abs,Y (R187). -/
def execCmpAbsY (o : Word) (s : State) : Host.Outcome State Fault Refusal := .next (cmpOp s (.mem (.absY o)))

/-- `DD` CMP abs,X (R187). -/
def execCmpAbsX (o : Word) (s : State) : Host.Outcome State Fault Refusal := .next (cmpOp s (.mem (.absX o)))

/-- `DF` CMP long,X (R187). -/
def execCmpLongX (a : Addr) (s : State) : Host.Outcome State Fault Refusal := .next (cmpOp s (.mem (.longX a)))

/-- `E0` CPX #imm (R188). -/
def execCpxImm (v : Imm) (s : State) : Host.Outcome State Fault Refusal := .next (cpxOp s (.imm v))

/-- `E4` CPX dp (R188). -/
def execCpxDp (d : Byte) (s : State) : Host.Outcome State Fault Refusal := .next (cpxOp s (.mem (.dp d)))

/-- `EC` CPX abs (R188). -/
def execCpxAbs (o : Word) (s : State) : Host.Outcome State Fault Refusal := .next (cpxOp s (.mem (.abs o)))

/-- `C0` CPY #imm (R189). -/
def execCpyImm (v : Imm) (s : State) : Host.Outcome State Fault Refusal := .next (cpyOp s (.imm v))

/-- `C4` CPY dp (R189). -/
def execCpyDp (d : Byte) (s : State) : Host.Outcome State Fault Refusal := .next (cpyOp s (.mem (.dp d)))

/-- `CC` CPY abs (R189). -/
def execCpyAbs (o : Word) (s : State) : Host.Outcome State Fault Refusal := .next (cpyOp s (.mem (.abs o)))

/-- `1A` INC A (R190). -/
def execIncA (s : State) : Host.Outcome State Fault Refusal := .next (incOp s .acc)

/-- `E6` INC dp (R190). -/
def execIncDp (d : Byte) (s : State) : Host.Outcome State Fault Refusal := .next (incOp s (.mem (.dp d)))

/-- `EE` INC abs (R190). -/
def execIncAbs (o : Word) (s : State) : Host.Outcome State Fault Refusal := .next (incOp s (.mem (.abs o)))

/-- `F6` INC dp,X (R190). -/
def execIncDpX (d : Byte) (s : State) : Host.Outcome State Fault Refusal := .next (incOp s (.mem (.dpX d)))

/-- `FE` INC abs,X (R190). -/
def execIncAbsX (o : Word) (s : State) : Host.Outcome State Fault Refusal := .next (incOp s (.mem (.absX o)))

/-- `3A` DEC A (R191). -/
def execDecA (s : State) : Host.Outcome State Fault Refusal := .next (decOp s .acc)

/-- `C6` DEC dp (R191). -/
def execDecDp (d : Byte) (s : State) : Host.Outcome State Fault Refusal := .next (decOp s (.mem (.dp d)))

/-- `CE` DEC abs (R191). -/
def execDecAbs (o : Word) (s : State) : Host.Outcome State Fault Refusal := .next (decOp s (.mem (.abs o)))

/-- `D6` DEC dp,X (R191). -/
def execDecDpX (d : Byte) (s : State) : Host.Outcome State Fault Refusal := .next (decOp s (.mem (.dpX d)))

/-- `DE` DEC abs,X (R191). -/
def execDecAbsX (o : Word) (s : State) : Host.Outcome State Fault Refusal := .next (decOp s (.mem (.absX o)))

/-- `E8` INX (R192). -/
def execInx (s : State) : Host.Outcome State Fault Refusal := .next (stepX s 1)

/-- `C8` INY (R193). -/
def execIny (s : State) : Host.Outcome State Fault Refusal := .next (stepY s 1)

/-- `CA` DEX (R194). -/
def execDex (s : State) : Host.Outcome State Fault Refusal := .next (stepX s (-1))

/-- `88` DEY (R195). -/
def execDey (s : State) : Host.Outcome State Fault Refusal := .next (stepY s (-1))

end Sys2Proof.Machine
end

