-- ==== Sys2Proof/Machine/BlockMove.lean ====
section
/-! DEFINITION. Block moves (R340, R341): the whole block is one step (D21). -/

namespace Sys2Proof.Machine

/-- `n` byte copies from `src:x` to `dst:y`, the offsets moving by `delta` modulo the index width after each (R340, R341). -/
def copyBlock (delta : Word) (w : Width) (dst src : Byte) : Nat → Word → Word → Bus → Word × Word × Bus
  | 0, x, y, b => (x, y, b)
  | n + 1, x, y, b =>
    let r := b.read (mkAddr src x)
    copyBlock delta w dst src n (w.mask (x + delta)) (w.mask (y + delta)) (r.2.write (mkAddr dst y) r.1)

/-- A block move: `A + 1` copies, then `A = $FFFF` and `DB` the destination bank, in every mode (R340, R341). -/
def blockMoveOp (s : State) (delta : Word) (dst src : Byte) : State :=
  let r := copyBlock delta s.cpu.xw dst src (s.cpu.a.toNat + 1) s.cpu.x s.cpu.y s.bus
  ((((s.setBus r.2.2).setX r.1).setY r.2.1).setA 0xFFFF).setDB dst

/-- `54` MVN srcbank,dstbank (R340). -/
def execMvn (dst : Byte) (src : Byte) (s : State) : Host.Outcome State Fault Refusal := .next (blockMoveOp s 1 dst src)

/-- `44` MVP srcbank,dstbank (R341). -/
def execMvp (dst : Byte) (src : Byte) (s : State) : Host.Outcome State Fault Refusal := .next (blockMoveOp s (-1) dst src)

end Sys2Proof.Machine
end

