-- ==== Sys2Proof/Machine/Control.lean ====
section
/-! DEFINITION. Branches, jumps, calls and returns (R240 to R256). `PC` is the address of the next instruction ("next"). -/

namespace Sys2Proof.Machine

/-- The branch law: taken, `PC` becomes the `rel8` target in the same bank (R240). -/
def branchOp (s : State) (cond : Bool) (r : Byte) : State := if cond then s.setPC (rel8Target s.cpu r) else s

/-- A branch on one flag's value (R241 to R248). -/
def branchIf (s : State) (f : Flag) (v : Bool) (r : Byte) : State := branchOp s (flagGet s.cpu.p f == v) r

/-- A jump to any bank (R252). -/
def State.jumpLong (s : State) (t : Addr) : State := (s.setPB (bankOf t)).setPC (offOf t)

/-- A call in the program bank: the address of the instruction's last byte is pushed (R253). -/
def State.call (s : State) (t : Word) : State := (s.push16 (s.cpu.pc - 1)).setPC t

/-- JSL: the bank and the address of the last byte are pushed (R254). -/
def State.callLong (s : State) (t : Addr) : State := ((s.push8 s.cpu.pb).push16 (s.cpu.pc - 1)).jumpLong t

/-- RTS (R255). -/
def rtsOp (s : State) : State :=
  let r := s.pull16
  r.2.setPC (r.1 + 1)

/-- RTL (R256). -/
def rtlOp (s : State) : State :=
  let r := s.pull16
  let b := r.2.pull8
  (b.2.setPC (r.1 + 1)).setPB b.1

/-- JMP `(abs)` (R251, R121). -/
def jmpIndOp (s : State) (o : Word) : State := let t := indTarget o s.bus; (s.setBus t.2).setPC t.1

/-- JMP `(abs,X)` (R251, R122). -/
def jmpIndXOp (s : State) (o : Word) : State := let t := indXTarget o s.cpu s.bus; (s.setBus t.2).setPC t.1

/-- JML `[abs]` (R252, R123). -/
def jmlIndOp (s : State) (o : Word) : State := let t := indLongTarget o s.bus; (s.setBus t.2).jumpLong t.1

/-- JSR `(abs,X)`: the pointer is read before the pushes (R253, D40). -/
def jsrIndXOp (s : State) (o : Word) : State := let t := indXTarget o s.cpu s.bus; (s.setBus t.2).call t.1

/-- `10` BPL rel8 (R241). -/
def execBpl (r : Byte) (s : State) : Host.Outcome State Fault Refusal := .next (branchIf s .n false r)

/-- `30` BMI rel8 (R242). -/
def execBmi (r : Byte) (s : State) : Host.Outcome State Fault Refusal := .next (branchIf s .n true r)

/-- `50` BVC rel8 (R243). -/
def execBvc (r : Byte) (s : State) : Host.Outcome State Fault Refusal := .next (branchIf s .v false r)

/-- `70` BVS rel8 (R244). -/
def execBvs (r : Byte) (s : State) : Host.Outcome State Fault Refusal := .next (branchIf s .v true r)

/-- `90` BCC rel8 (R245). -/
def execBcc (r : Byte) (s : State) : Host.Outcome State Fault Refusal := .next (branchIf s .c false r)

/-- `B0` BCS rel8 (R246). -/
def execBcs (r : Byte) (s : State) : Host.Outcome State Fault Refusal := .next (branchIf s .c true r)

/-- `D0` BNE rel8 (R247). -/
def execBne (r : Byte) (s : State) : Host.Outcome State Fault Refusal := .next (branchIf s .z false r)

/-- `F0` BEQ rel8 (R248). -/
def execBeq (r : Byte) (s : State) : Host.Outcome State Fault Refusal := .next (branchIf s .z true r)

/-- `80` BRA rel8 (R249). -/
def execBra (r : Byte) (s : State) : Host.Outcome State Fault Refusal := .next (branchOp s true r)

/-- `82` BRL rel16 (R250). -/
def execBrl (r : Word) (s : State) : Host.Outcome State Fault Refusal := .next (s.setPC (rel16Target s.cpu r))

/-- `4C` JMP abs (R251). -/
def execJmpAbs (o : Word) (s : State) : Host.Outcome State Fault Refusal := .next (s.setPC o)

/-- `6C` JMP (abs) (R251). -/
def execJmpInd (o : Word) (s : State) : Host.Outcome State Fault Refusal := .next (jmpIndOp s o)

/-- `7C` JMP (abs,X) (R251). -/
def execJmpIndX (o : Word) (s : State) : Host.Outcome State Fault Refusal := .next (jmpIndXOp s o)

/-- `5C` JML long (R252). -/
def execJmlLong (a : Addr) (s : State) : Host.Outcome State Fault Refusal := .next (s.jumpLong a)

/-- `DC` JML [abs] (R252). -/
def execJmlInd (o : Word) (s : State) : Host.Outcome State Fault Refusal := .next (jmlIndOp s o)

/-- `20` JSR abs (R253). -/
def execJsrAbs (o : Word) (s : State) : Host.Outcome State Fault Refusal := .next (s.call o)

/-- `FC` JSR (abs,X) (R253). -/
def execJsrIndX (o : Word) (s : State) : Host.Outcome State Fault Refusal := .next (jsrIndXOp s o)

/-- `22` JSL long (R254). -/
def execJsl (a : Addr) (s : State) : Host.Outcome State Fault Refusal := .next (s.callLong a)

/-- `60` RTS (R255). -/
def execRts (s : State) : Host.Outcome State Fault Refusal := .next (rtsOp s)

/-- `6B` RTL (R256). -/
def execRtl (s : State) : Host.Outcome State Fault Refusal := .next (rtlOp s)

end Sys2Proof.Machine
end

