-- ==== Sys2Proof/Machine/LoadStore.lean ====
section
/-! DEFINITION. Loads and stores (R140 to R146). -/

namespace Sys2Proof.Machine

/-- LDA (R140). -/
def ldaOp (s : State) (o : Operand) : State :=
  let r := s.load o s.cpu.mw
  (r.2.writeA s.cpu.mw r.1).flagsNZ s.cpu.mw r.1

/-- LDX (R141). -/
def ldxOp (s : State) (o : Operand) : State :=
  let r := s.load o s.cpu.xw
  (r.2.setX r.1).flagsNZ s.cpu.xw r.1

/-- LDY (R142). -/
def ldyOp (s : State) (o : Operand) : State :=
  let r := s.load o s.cpu.xw
  (r.2.setY r.1).flagsNZ s.cpu.xw r.1

/-- STA (R143). -/
def staOp (s : State) (m : MemMode) : State := s.store m s.cpu.mw s.accOperand

/-- STX (R144). -/
def stxOp (s : State) (m : MemMode) : State := s.store m s.cpu.xw (s.cpu.xw.mask s.cpu.x)

/-- STY (R145). -/
def styOp (s : State) (m : MemMode) : State := s.store m s.cpu.xw (s.cpu.xw.mask s.cpu.y)

/-- STZ (R146). -/
def stzOp (s : State) (m : MemMode) : State := s.store m s.cpu.mw 0

/-- `A1` LDA (dp,X) (R140). -/
def execLdaDpXInd (d : Byte) (s : State) : Host.Outcome State Fault Refusal := .next (ldaOp s (.mem (.dpXInd d)))

/-- `A3` LDA sr,S (R140). -/
def execLdaSr (d : Byte) (s : State) : Host.Outcome State Fault Refusal := .next (ldaOp s (.mem (.sr d)))

/-- `A5` LDA dp (R140). -/
def execLdaDp (d : Byte) (s : State) : Host.Outcome State Fault Refusal := .next (ldaOp s (.mem (.dp d)))

/-- `A7` LDA [dp] (R140). -/
def execLdaDpIndLong (d : Byte) (s : State) : Host.Outcome State Fault Refusal := .next (ldaOp s (.mem (.dpIndLong d)))

/-- `A9` LDA #imm (R140). -/
def execLdaImm (v : Imm) (s : State) : Host.Outcome State Fault Refusal := .next (ldaOp s (.imm v))

/-- `AD` LDA abs (R140). -/
def execLdaAbs (o : Word) (s : State) : Host.Outcome State Fault Refusal := .next (ldaOp s (.mem (.abs o)))

/-- `AF` LDA long (R140). -/
def execLdaLong (a : Addr) (s : State) : Host.Outcome State Fault Refusal := .next (ldaOp s (.mem (.long a)))

/-- `B1` LDA (dp),Y (R140). -/
def execLdaDpIndY (d : Byte) (s : State) : Host.Outcome State Fault Refusal := .next (ldaOp s (.mem (.dpIndY d)))

/-- `B2` LDA (dp) (R140). -/
def execLdaDpInd (d : Byte) (s : State) : Host.Outcome State Fault Refusal := .next (ldaOp s (.mem (.dpInd d)))

/-- `B3` LDA (sr,S),Y (R140). -/
def execLdaSrIndY (d : Byte) (s : State) : Host.Outcome State Fault Refusal := .next (ldaOp s (.mem (.srIndY d)))

/-- `B5` LDA dp,X (R140). -/
def execLdaDpX (d : Byte) (s : State) : Host.Outcome State Fault Refusal := .next (ldaOp s (.mem (.dpX d)))

/-- `B7` LDA [dp],Y (R140). -/
def execLdaDpIndLongY (d : Byte) (s : State) : Host.Outcome State Fault Refusal := .next (ldaOp s (.mem (.dpIndLongY d)))

/-- `B9` LDA abs,Y (R140). -/
def execLdaAbsY (o : Word) (s : State) : Host.Outcome State Fault Refusal := .next (ldaOp s (.mem (.absY o)))

/-- `BD` LDA abs,X (R140). -/
def execLdaAbsX (o : Word) (s : State) : Host.Outcome State Fault Refusal := .next (ldaOp s (.mem (.absX o)))

/-- `BF` LDA long,X (R140). -/
def execLdaLongX (a : Addr) (s : State) : Host.Outcome State Fault Refusal := .next (ldaOp s (.mem (.longX a)))

/-- `A2` LDX #imm (R141). -/
def execLdxImm (v : Imm) (s : State) : Host.Outcome State Fault Refusal := .next (ldxOp s (.imm v))

/-- `A6` LDX dp (R141). -/
def execLdxDp (d : Byte) (s : State) : Host.Outcome State Fault Refusal := .next (ldxOp s (.mem (.dp d)))

/-- `AE` LDX abs (R141). -/
def execLdxAbs (o : Word) (s : State) : Host.Outcome State Fault Refusal := .next (ldxOp s (.mem (.abs o)))

/-- `B6` LDX dp,Y (R141). -/
def execLdxDpY (d : Byte) (s : State) : Host.Outcome State Fault Refusal := .next (ldxOp s (.mem (.dpY d)))

/-- `BE` LDX abs,Y (R141). -/
def execLdxAbsY (o : Word) (s : State) : Host.Outcome State Fault Refusal := .next (ldxOp s (.mem (.absY o)))

/-- `A0` LDY #imm (R142). -/
def execLdyImm (v : Imm) (s : State) : Host.Outcome State Fault Refusal := .next (ldyOp s (.imm v))

/-- `A4` LDY dp (R142). -/
def execLdyDp (d : Byte) (s : State) : Host.Outcome State Fault Refusal := .next (ldyOp s (.mem (.dp d)))

/-- `AC` LDY abs (R142). -/
def execLdyAbs (o : Word) (s : State) : Host.Outcome State Fault Refusal := .next (ldyOp s (.mem (.abs o)))

/-- `B4` LDY dp,X (R142). -/
def execLdyDpX (d : Byte) (s : State) : Host.Outcome State Fault Refusal := .next (ldyOp s (.mem (.dpX d)))

/-- `BC` LDY abs,X (R142). -/
def execLdyAbsX (o : Word) (s : State) : Host.Outcome State Fault Refusal := .next (ldyOp s (.mem (.absX o)))

/-- `81` STA (dp,X) (R143). -/
def execStaDpXInd (d : Byte) (s : State) : Host.Outcome State Fault Refusal := .next (staOp s (.dpXInd d))

/-- `83` STA sr,S (R143). -/
def execStaSr (d : Byte) (s : State) : Host.Outcome State Fault Refusal := .next (staOp s (.sr d))

/-- `85` STA dp (R143). -/
def execStaDp (d : Byte) (s : State) : Host.Outcome State Fault Refusal := .next (staOp s (.dp d))

/-- `87` STA [dp] (R143). -/
def execStaDpIndLong (d : Byte) (s : State) : Host.Outcome State Fault Refusal := .next (staOp s (.dpIndLong d))

/-- `8D` STA abs (R143). -/
def execStaAbs (o : Word) (s : State) : Host.Outcome State Fault Refusal := .next (staOp s (.abs o))

/-- `8F` STA long (R143). -/
def execStaLong (a : Addr) (s : State) : Host.Outcome State Fault Refusal := .next (staOp s (.long a))

/-- `91` STA (dp),Y (R143). -/
def execStaDpIndY (d : Byte) (s : State) : Host.Outcome State Fault Refusal := .next (staOp s (.dpIndY d))

/-- `92` STA (dp) (R143). -/
def execStaDpInd (d : Byte) (s : State) : Host.Outcome State Fault Refusal := .next (staOp s (.dpInd d))

/-- `93` STA (sr,S),Y (R143). -/
def execStaSrIndY (d : Byte) (s : State) : Host.Outcome State Fault Refusal := .next (staOp s (.srIndY d))

/-- `95` STA dp,X (R143). -/
def execStaDpX (d : Byte) (s : State) : Host.Outcome State Fault Refusal := .next (staOp s (.dpX d))

/-- `97` STA [dp],Y (R143). -/
def execStaDpIndLongY (d : Byte) (s : State) : Host.Outcome State Fault Refusal := .next (staOp s (.dpIndLongY d))

/-- `99` STA abs,Y (R143). -/
def execStaAbsY (o : Word) (s : State) : Host.Outcome State Fault Refusal := .next (staOp s (.absY o))

/-- `9D` STA abs,X (R143). -/
def execStaAbsX (o : Word) (s : State) : Host.Outcome State Fault Refusal := .next (staOp s (.absX o))

/-- `9F` STA long,X (R143). -/
def execStaLongX (a : Addr) (s : State) : Host.Outcome State Fault Refusal := .next (staOp s (.longX a))

/-- `86` STX dp (R144). -/
def execStxDp (d : Byte) (s : State) : Host.Outcome State Fault Refusal := .next (stxOp s (.dp d))

/-- `8E` STX abs (R144). -/
def execStxAbs (o : Word) (s : State) : Host.Outcome State Fault Refusal := .next (stxOp s (.abs o))

/-- `96` STX dp,Y (R144). -/
def execStxDpY (d : Byte) (s : State) : Host.Outcome State Fault Refusal := .next (stxOp s (.dpY d))

/-- `84` STY dp (R145). -/
def execStyDp (d : Byte) (s : State) : Host.Outcome State Fault Refusal := .next (styOp s (.dp d))

/-- `8C` STY abs (R145). -/
def execStyAbs (o : Word) (s : State) : Host.Outcome State Fault Refusal := .next (styOp s (.abs o))

/-- `94` STY dp,X (R145). -/
def execStyDpX (d : Byte) (s : State) : Host.Outcome State Fault Refusal := .next (styOp s (.dpX d))

/-- `64` STZ dp (R146). -/
def execStzDp (d : Byte) (s : State) : Host.Outcome State Fault Refusal := .next (stzOp s (.dp d))

/-- `74` STZ dp,X (R146). -/
def execStzDpX (d : Byte) (s : State) : Host.Outcome State Fault Refusal := .next (stzOp s (.dpX d))

/-- `9C` STZ abs (R146). -/
def execStzAbs (o : Word) (s : State) : Host.Outcome State Fault Refusal := .next (stzOp s (.abs o))

/-- `9E` STZ abs,X (R146). -/
def execStzAbsX (o : Word) (s : State) : Host.Outcome State Fault Refusal := .next (stzOp s (.absX o))

end Sys2Proof.Machine
end

