-- ==== Sys2Proof/Machine/Logic.lean ====
section
/-! DEFINITION. Logic, bit test, shifts and rotates (R210 to R219). -/

namespace Sys2Proof.Machine

/-- The accumulator combined with an operand (R210 to R212). -/
def logicOp (f : Word → Word → Word) (s : State) (o : Operand) : State :=
  let r := s.load o s.cpu.mw
  let v := f s.accOperand r.1
  (r.2.writeA s.cpu.mw v).flagsNZ s.cpu.mw v

/-- AND (R210). -/
def andOp (s : State) (o : Operand) : State := logicOp (fun a b => a &&& b) s o

/-- ORA (R211). -/
def oraOp (s : State) (o : Operand) : State := logicOp (fun a b => a ||| b) s o

/-- EOR (R212). -/
def eorOp (s : State) (o : Operand) : State := logicOp (fun a b => a ^^^ b) s o

/-- BIT on memory: Z, and N and V from the operand (R213). -/
def bitMemOp (s : State) (m : MemMode) : State :=
  let r := s.load (.mem m) s.cpu.mw
  r.2.setP (bitNV s.cpu.mw r.1 (bitZ s.cpu.mw s.cpu.a r.1 s.cpu.p))

/-- BIT immediate: Z only (R213). -/
def bitImmOp (s : State) (v : Imm) : State :=
  let r := s.load (.imm v) s.cpu.mw
  r.2.setP (bitZ s.cpu.mw s.cpu.a r.1 s.cpu.p)

/-- TSB (R214). -/
def tsbOp (s : State) (m : MemMode) : State := s.rmw (fun w v p => tsbOut w s.cpu.a v p) (.mem m)

/-- TRB (R215). -/
def trbOp (s : State) (m : MemMode) : State := s.rmw (fun w v p => trbOut w s.cpu.a v p) (.mem m)

/-- ASL (R216). -/
def aslOp (s : State) (o : RmwOperand) : State := s.rmw aslOut o

/-- LSR (R217). -/
def lsrOp (s : State) (o : RmwOperand) : State := s.rmw lsrOut o

/-- ROL (R218). -/
def rolOp (s : State) (o : RmwOperand) : State := s.rmw rolOut o

/-- ROR (R219). -/
def rorOp (s : State) (o : RmwOperand) : State := s.rmw rorOut o

/-- `21` AND (dp,X) (R210). -/
def execAndDpXInd (d : Byte) (s : State) : Host.Outcome State Fault Refusal := .next (andOp s (.mem (.dpXInd d)))

/-- `23` AND sr,S (R210). -/
def execAndSr (d : Byte) (s : State) : Host.Outcome State Fault Refusal := .next (andOp s (.mem (.sr d)))

/-- `25` AND dp (R210). -/
def execAndDp (d : Byte) (s : State) : Host.Outcome State Fault Refusal := .next (andOp s (.mem (.dp d)))

/-- `27` AND [dp] (R210). -/
def execAndDpIndLong (d : Byte) (s : State) : Host.Outcome State Fault Refusal := .next (andOp s (.mem (.dpIndLong d)))

/-- `29` AND #imm (R210). -/
def execAndImm (v : Imm) (s : State) : Host.Outcome State Fault Refusal := .next (andOp s (.imm v))

/-- `2D` AND abs (R210). -/
def execAndAbs (o : Word) (s : State) : Host.Outcome State Fault Refusal := .next (andOp s (.mem (.abs o)))

/-- `2F` AND long (R210). -/
def execAndLong (a : Addr) (s : State) : Host.Outcome State Fault Refusal := .next (andOp s (.mem (.long a)))

/-- `31` AND (dp),Y (R210). -/
def execAndDpIndY (d : Byte) (s : State) : Host.Outcome State Fault Refusal := .next (andOp s (.mem (.dpIndY d)))

/-- `32` AND (dp) (R210). -/
def execAndDpInd (d : Byte) (s : State) : Host.Outcome State Fault Refusal := .next (andOp s (.mem (.dpInd d)))

/-- `33` AND (sr,S),Y (R210). -/
def execAndSrIndY (d : Byte) (s : State) : Host.Outcome State Fault Refusal := .next (andOp s (.mem (.srIndY d)))

/-- `35` AND dp,X (R210). -/
def execAndDpX (d : Byte) (s : State) : Host.Outcome State Fault Refusal := .next (andOp s (.mem (.dpX d)))

/-- `37` AND [dp],Y (R210). -/
def execAndDpIndLongY (d : Byte) (s : State) : Host.Outcome State Fault Refusal := .next (andOp s (.mem (.dpIndLongY d)))

/-- `39` AND abs,Y (R210). -/
def execAndAbsY (o : Word) (s : State) : Host.Outcome State Fault Refusal := .next (andOp s (.mem (.absY o)))

/-- `3D` AND abs,X (R210). -/
def execAndAbsX (o : Word) (s : State) : Host.Outcome State Fault Refusal := .next (andOp s (.mem (.absX o)))

/-- `3F` AND long,X (R210). -/
def execAndLongX (a : Addr) (s : State) : Host.Outcome State Fault Refusal := .next (andOp s (.mem (.longX a)))

/-- `01` ORA (dp,X) (R211). -/
def execOraDpXInd (d : Byte) (s : State) : Host.Outcome State Fault Refusal := .next (oraOp s (.mem (.dpXInd d)))

/-- `03` ORA sr,S (R211). -/
def execOraSr (d : Byte) (s : State) : Host.Outcome State Fault Refusal := .next (oraOp s (.mem (.sr d)))

/-- `05` ORA dp (R211). -/
def execOraDp (d : Byte) (s : State) : Host.Outcome State Fault Refusal := .next (oraOp s (.mem (.dp d)))

/-- `07` ORA [dp] (R211). -/
def execOraDpIndLong (d : Byte) (s : State) : Host.Outcome State Fault Refusal := .next (oraOp s (.mem (.dpIndLong d)))

/-- `09` ORA #imm (R211). -/
def execOraImm (v : Imm) (s : State) : Host.Outcome State Fault Refusal := .next (oraOp s (.imm v))

/-- `0D` ORA abs (R211). -/
def execOraAbs (o : Word) (s : State) : Host.Outcome State Fault Refusal := .next (oraOp s (.mem (.abs o)))

/-- `0F` ORA long (R211). -/
def execOraLong (a : Addr) (s : State) : Host.Outcome State Fault Refusal := .next (oraOp s (.mem (.long a)))

/-- `11` ORA (dp),Y (R211). -/
def execOraDpIndY (d : Byte) (s : State) : Host.Outcome State Fault Refusal := .next (oraOp s (.mem (.dpIndY d)))

/-- `12` ORA (dp) (R211). -/
def execOraDpInd (d : Byte) (s : State) : Host.Outcome State Fault Refusal := .next (oraOp s (.mem (.dpInd d)))

/-- `13` ORA (sr,S),Y (R211). -/
def execOraSrIndY (d : Byte) (s : State) : Host.Outcome State Fault Refusal := .next (oraOp s (.mem (.srIndY d)))

/-- `15` ORA dp,X (R211). -/
def execOraDpX (d : Byte) (s : State) : Host.Outcome State Fault Refusal := .next (oraOp s (.mem (.dpX d)))

/-- `17` ORA [dp],Y (R211). -/
def execOraDpIndLongY (d : Byte) (s : State) : Host.Outcome State Fault Refusal := .next (oraOp s (.mem (.dpIndLongY d)))

/-- `19` ORA abs,Y (R211). -/
def execOraAbsY (o : Word) (s : State) : Host.Outcome State Fault Refusal := .next (oraOp s (.mem (.absY o)))

/-- `1D` ORA abs,X (R211). -/
def execOraAbsX (o : Word) (s : State) : Host.Outcome State Fault Refusal := .next (oraOp s (.mem (.absX o)))

/-- `1F` ORA long,X (R211). -/
def execOraLongX (a : Addr) (s : State) : Host.Outcome State Fault Refusal := .next (oraOp s (.mem (.longX a)))

/-- `41` EOR (dp,X) (R212). -/
def execEorDpXInd (d : Byte) (s : State) : Host.Outcome State Fault Refusal := .next (eorOp s (.mem (.dpXInd d)))

/-- `43` EOR sr,S (R212). -/
def execEorSr (d : Byte) (s : State) : Host.Outcome State Fault Refusal := .next (eorOp s (.mem (.sr d)))

/-- `45` EOR dp (R212). -/
def execEorDp (d : Byte) (s : State) : Host.Outcome State Fault Refusal := .next (eorOp s (.mem (.dp d)))

/-- `47` EOR [dp] (R212). -/
def execEorDpIndLong (d : Byte) (s : State) : Host.Outcome State Fault Refusal := .next (eorOp s (.mem (.dpIndLong d)))

/-- `49` EOR #imm (R212). -/
def execEorImm (v : Imm) (s : State) : Host.Outcome State Fault Refusal := .next (eorOp s (.imm v))

/-- `4D` EOR abs (R212). -/
def execEorAbs (o : Word) (s : State) : Host.Outcome State Fault Refusal := .next (eorOp s (.mem (.abs o)))

/-- `4F` EOR long (R212). -/
def execEorLong (a : Addr) (s : State) : Host.Outcome State Fault Refusal := .next (eorOp s (.mem (.long a)))

/-- `51` EOR (dp),Y (R212). -/
def execEorDpIndY (d : Byte) (s : State) : Host.Outcome State Fault Refusal := .next (eorOp s (.mem (.dpIndY d)))

/-- `52` EOR (dp) (R212). -/
def execEorDpInd (d : Byte) (s : State) : Host.Outcome State Fault Refusal := .next (eorOp s (.mem (.dpInd d)))

/-- `53` EOR (sr,S),Y (R212). -/
def execEorSrIndY (d : Byte) (s : State) : Host.Outcome State Fault Refusal := .next (eorOp s (.mem (.srIndY d)))

/-- `55` EOR dp,X (R212). -/
def execEorDpX (d : Byte) (s : State) : Host.Outcome State Fault Refusal := .next (eorOp s (.mem (.dpX d)))

/-- `57` EOR [dp],Y (R212). -/
def execEorDpIndLongY (d : Byte) (s : State) : Host.Outcome State Fault Refusal := .next (eorOp s (.mem (.dpIndLongY d)))

/-- `59` EOR abs,Y (R212). -/
def execEorAbsY (o : Word) (s : State) : Host.Outcome State Fault Refusal := .next (eorOp s (.mem (.absY o)))

/-- `5D` EOR abs,X (R212). -/
def execEorAbsX (o : Word) (s : State) : Host.Outcome State Fault Refusal := .next (eorOp s (.mem (.absX o)))

/-- `5F` EOR long,X (R212). -/
def execEorLongX (a : Addr) (s : State) : Host.Outcome State Fault Refusal := .next (eorOp s (.mem (.longX a)))

/-- `24` BIT dp (R213). -/
def execBitDp (d : Byte) (s : State) : Host.Outcome State Fault Refusal := .next (bitMemOp s (.dp d))

/-- `2C` BIT abs (R213). -/
def execBitAbs (o : Word) (s : State) : Host.Outcome State Fault Refusal := .next (bitMemOp s (.abs o))

/-- `34` BIT dp,X (R213). -/
def execBitDpX (d : Byte) (s : State) : Host.Outcome State Fault Refusal := .next (bitMemOp s (.dpX d))

/-- `3C` BIT abs,X (R213). -/
def execBitAbsX (o : Word) (s : State) : Host.Outcome State Fault Refusal := .next (bitMemOp s (.absX o))

/-- `89` BIT #imm (R213). -/
def execBitImm (v : Imm) (s : State) : Host.Outcome State Fault Refusal := .next (bitImmOp s v)

/-- `04` TSB dp (R214). -/
def execTsbDp (d : Byte) (s : State) : Host.Outcome State Fault Refusal := .next (tsbOp s (.dp d))

/-- `0C` TSB abs (R214). -/
def execTsbAbs (o : Word) (s : State) : Host.Outcome State Fault Refusal := .next (tsbOp s (.abs o))

/-- `14` TRB dp (R215). -/
def execTrbDp (d : Byte) (s : State) : Host.Outcome State Fault Refusal := .next (trbOp s (.dp d))

/-- `1C` TRB abs (R215). -/
def execTrbAbs (o : Word) (s : State) : Host.Outcome State Fault Refusal := .next (trbOp s (.abs o))

/-- `06` ASL dp (R216). -/
def execAslDp (d : Byte) (s : State) : Host.Outcome State Fault Refusal := .next (aslOp s (.mem (.dp d)))

/-- `0A` ASL A (R216). -/
def execAslA (s : State) : Host.Outcome State Fault Refusal := .next (aslOp s .acc)

/-- `0E` ASL abs (R216). -/
def execAslAbs (o : Word) (s : State) : Host.Outcome State Fault Refusal := .next (aslOp s (.mem (.abs o)))

/-- `16` ASL dp,X (R216). -/
def execAslDpX (d : Byte) (s : State) : Host.Outcome State Fault Refusal := .next (aslOp s (.mem (.dpX d)))

/-- `1E` ASL abs,X (R216). -/
def execAslAbsX (o : Word) (s : State) : Host.Outcome State Fault Refusal := .next (aslOp s (.mem (.absX o)))

/-- `46` LSR dp (R217). -/
def execLsrDp (d : Byte) (s : State) : Host.Outcome State Fault Refusal := .next (lsrOp s (.mem (.dp d)))

/-- `4A` LSR A (R217). -/
def execLsrA (s : State) : Host.Outcome State Fault Refusal := .next (lsrOp s .acc)

/-- `4E` LSR abs (R217). -/
def execLsrAbs (o : Word) (s : State) : Host.Outcome State Fault Refusal := .next (lsrOp s (.mem (.abs o)))

/-- `56` LSR dp,X (R217). -/
def execLsrDpX (d : Byte) (s : State) : Host.Outcome State Fault Refusal := .next (lsrOp s (.mem (.dpX d)))

/-- `5E` LSR abs,X (R217). -/
def execLsrAbsX (o : Word) (s : State) : Host.Outcome State Fault Refusal := .next (lsrOp s (.mem (.absX o)))

/-- `26` ROL dp (R218). -/
def execRolDp (d : Byte) (s : State) : Host.Outcome State Fault Refusal := .next (rolOp s (.mem (.dp d)))

/-- `2A` ROL A (R218). -/
def execRolA (s : State) : Host.Outcome State Fault Refusal := .next (rolOp s .acc)

/-- `2E` ROL abs (R218). -/
def execRolAbs (o : Word) (s : State) : Host.Outcome State Fault Refusal := .next (rolOp s (.mem (.abs o)))

/-- `36` ROL dp,X (R218). -/
def execRolDpX (d : Byte) (s : State) : Host.Outcome State Fault Refusal := .next (rolOp s (.mem (.dpX d)))

/-- `3E` ROL abs,X (R218). -/
def execRolAbsX (o : Word) (s : State) : Host.Outcome State Fault Refusal := .next (rolOp s (.mem (.absX o)))

/-- `66` ROR dp (R219). -/
def execRorDp (d : Byte) (s : State) : Host.Outcome State Fault Refusal := .next (rorOp s (.mem (.dp d)))

/-- `6A` ROR A (R219). -/
def execRorA (s : State) : Host.Outcome State Fault Refusal := .next (rorOp s .acc)

/-- `6E` ROR abs (R219). -/
def execRorAbs (o : Word) (s : State) : Host.Outcome State Fault Refusal := .next (rorOp s (.mem (.abs o)))

/-- `76` ROR dp,X (R219). -/
def execRorDpX (d : Byte) (s : State) : Host.Outcome State Fault Refusal := .next (rorOp s (.mem (.dpX d)))

/-- `7E` ROR abs,X (R219). -/
def execRorAbsX (o : Word) (s : State) : Host.Outcome State Fault Refusal := .next (rorOp s (.mem (.absX o)))

end Sys2Proof.Machine
end

