-- ==== Sys2Proof/Machine/Stack.lean ====
section
/-! DEFINITION. Pushes, pulls and push-effective-address (R270 to R285). -/

namespace Sys2Proof.Machine

/-- PLA (R277). -/
def plaOp (s : State) : State :=
  let r := s.pullW s.cpu.mw
  (r.2.writeA s.cpu.mw r.1).flagsNZ s.cpu.mw r.1

/-- PLP (R278). -/
def plpOp (s : State) : State := let r := s.pull8; (r.2.setP r.1).widthDiscipline

/-- PLX (R279). -/
def plxOp (s : State) : State := let r := s.pullW s.cpu.xw; (r.2.setX r.1).flagsNZ s.cpu.xw r.1

/-- PLY (R280). -/
def plyOp (s : State) : State := let r := s.pullW s.cpu.xw; (r.2.setY r.1).flagsNZ s.cpu.xw r.1

/-- PLB (R281). -/
def plbOp (s : State) : State := let r := s.pull8; (r.2.setDB r.1).flagsNZ .w8 (r.1.setWidth 16)

/-- PLD (R282). -/
def pldOp (s : State) : State := let r := s.pull16; (r.2.setD r.1).flagsNZ .w16 r.1

/-- PEI: push the word found in the direct page (R284). -/
def peiOp (s : State) (d : Byte) : State :=
  let r := s.bus.read16 (dpAddr s.cpu d 0)
  (s.setBus r.2).push16 r.1

/-- `48` PHA (R270). -/
def execPha (s : State) : Host.Outcome State Fault Refusal := .next (s.pushW s.cpu.mw s.cpu.a)

/-- `08` PHP (R271). -/
def execPhp (s : State) : Host.Outcome State Fault Refusal := .next (s.push8 s.cpu.p)

/-- `DA` PHX (R272). -/
def execPhx (s : State) : Host.Outcome State Fault Refusal := .next (s.pushW s.cpu.xw s.cpu.x)

/-- `5A` PHY (R273). -/
def execPhy (s : State) : Host.Outcome State Fault Refusal := .next (s.pushW s.cpu.xw s.cpu.y)

/-- `8B` PHB (R274). -/
def execPhb (s : State) : Host.Outcome State Fault Refusal := .next (s.push8 s.cpu.db)

/-- `0B` PHD (R275). -/
def execPhd (s : State) : Host.Outcome State Fault Refusal := .next (s.push16 s.cpu.d)

/-- `4B` PHK (R276). -/
def execPhk (s : State) : Host.Outcome State Fault Refusal := .next (s.push8 s.cpu.pb)

/-- `68` PLA (R277). -/
def execPla (s : State) : Host.Outcome State Fault Refusal := .next (plaOp s)

/-- `28` PLP (R278). -/
def execPlp (s : State) : Host.Outcome State Fault Refusal := .next (plpOp s)

/-- `FA` PLX (R279). -/
def execPlx (s : State) : Host.Outcome State Fault Refusal := .next (plxOp s)

/-- `7A` PLY (R280). -/
def execPly (s : State) : Host.Outcome State Fault Refusal := .next (plyOp s)

/-- `AB` PLB (R281). -/
def execPlb (s : State) : Host.Outcome State Fault Refusal := .next (plbOp s)

/-- `2B` PLD (R282). -/
def execPld (s : State) : Host.Outcome State Fault Refusal := .next (pldOp s)

/-- `F4` PEA #imm16 (R283). -/
def execPea (v : Word) (s : State) : Host.Outcome State Fault Refusal := .next (s.push16 v)

/-- `D4` PEI (dp) (R284). -/
def execPei (d : Byte) (s : State) : Host.Outcome State Fault Refusal := .next (peiOp s d)

/-- `62` PER rel16 (R285). -/
def execPer (r : Word) (s : State) : Host.Outcome State Fault Refusal := .next (s.push16 (rel16Target s.cpu r))

end Sys2Proof.Machine
end

