-- ==== Sys2Proof/Machine/Status.lean ====
section
/-! DEFINITION. Flag instructions, REP, SEP and XCE (R300 to R309). -/

namespace Sys2Proof.Machine

/-- One flag written (R300 to R306). -/
def State.putFlag (s : State) (f : Flag) (v : Bool) : State := s.setP (flagSet s.cpu.p f v)

/-- REP (R307). -/
def repOp (s : State) (k : Byte) : State := (s.setP (s.cpu.p &&& ~~~k)).widthDiscipline

/-- SEP (R308). -/
def sepOp (s : State) (k : Byte) : State := (s.setP (s.cpu.p ||| k)).widthDiscipline

/-- XCE (R309): C and E exchanged, M and X set on the way into emulation mode. -/
def xceOp (s : State) : State :=
  let e := flagGet s.cpu.p .c
  let p := flagSet s.cpu.p .c s.cpu.e
  let p' := if !s.cpu.e && e then flagSet (flagSet p .m true) .x true else p
  ((s.setE e).setP p').widthDiscipline

/-- `18` CLC (R300). -/
def execClc (s : State) : Host.Outcome State Fault Refusal := .next (s.putFlag .c false)

/-- `38` SEC (R301). -/
def execSec (s : State) : Host.Outcome State Fault Refusal := .next (s.putFlag .c true)

/-- `58` CLI (R302). -/
def execCli (s : State) : Host.Outcome State Fault Refusal := .next (s.putFlag .i false)

/-- `78` SEI (R303). -/
def execSei (s : State) : Host.Outcome State Fault Refusal := .next (s.putFlag .i true)

/-- `D8` CLD (R304). -/
def execCld (s : State) : Host.Outcome State Fault Refusal := .next (s.putFlag .d false)

/-- `F8` SED (R305). -/
def execSed (s : State) : Host.Outcome State Fault Refusal := .next (s.putFlag .d true)

/-- `B8` CLV (R306). -/
def execClv (s : State) : Host.Outcome State Fault Refusal := .next (s.putFlag .v false)

/-- `C2` REP #imm8 (R307). -/
def execRep (k : Byte) (s : State) : Host.Outcome State Fault Refusal := .next (repOp s k)

/-- `E2` SEP #imm8 (R308). -/
def execSep (k : Byte) (s : State) : Host.Outcome State Fault Refusal := .next (sepOp s k)

/-- `FB` XCE (R309). -/
def execXce (s : State) : Host.Outcome State Fault Refusal := .next (xceOp s)

end Sys2Proof.Machine
end

