-- ==== Sys2Proof/Machine/System.lean ====
section
/-! DEFINITION. BRK, COP, RTI, NOP, WDM, WAI and STP (R320 to R327). The signature byte is already fetched, so `PC` is the opcode address + 2. -/

namespace Sys2Proof.Machine

/-- `00` BRK #sig8 (R320). -/
def execBrk (_sig : Byte) (s : State) : Host.Outcome State Fault Refusal := .next (s.interrupt .brk)

/-- `02` COP #sig8 (R321). -/
def execCop (_sig : Byte) (s : State) : Host.Outcome State Fault Refusal := .next (s.interrupt .cop)

/-- `40` RTI (R322). -/
def execRti (s : State) : Host.Outcome State Fault Refusal := .next (s.returnFromInterrupt)

/-- `EA` NOP (R323). -/
def execNop (s : State) : Host.Outcome State Fault Refusal := .next s

/-- `42` WDM #imm8 (R324). -/
def execWdm (_b : Byte) (s : State) : Host.Outcome State Fault Refusal := .next s

/-- `CB` WAI (R326). -/
def execWai (s : State) : Host.Outcome State Fault Refusal := .next (s.setRun .waiting)

/-- `DB` STP (R327). -/
def execStp (s : State) : Host.Outcome State Fault Refusal := .next (s.setRun .stopped)

end Sys2Proof.Machine
end

