-- ==== Sys2Proof/Machine/Transfer.lean ====
section
/-! DEFINITION. Register transfers and XBA (R160 to R172). -/

namespace Sys2Proof.Machine

/-- Write a value to X at width `xw` and set N and Z (R160, R165, R166). -/
def State.toX (s : State) (v : Word) : State :=
  let r := s.cpu.xw.mask v
  (s.setX r).flagsNZ s.cpu.xw r

/-- Write a value to Y at width `xw` and set N and Z (R161). -/
def State.toY (s : State) (v : Word) : State :=
  let r := s.cpu.xw.mask v
  (s.setY r).flagsNZ s.cpu.xw r

/-- Write a value to the accumulator at width `mw` and set N and Z (R162, R163). -/
def State.toA (s : State) (v : Word) : State := (s.writeA s.cpu.mw v).flagsNZ s.cpu.mw v

/-- Write all 16 bits of the accumulator and set N and Z on 16 bits (R169, R171). -/
def State.toA16 (s : State) (v : Word) : State := (s.setA v).flagsNZ .w16 v

/-- Write the stack pointer, pinned to page `$01` in emulation mode (R167, R170, D36). -/
def State.toS (s : State) (v : Word) : State := s.setS (stackPtr s.cpu.e v)

/-- `AA` TAX (R160). -/
def execTax (s : State) : Host.Outcome State Fault Refusal := .next (s.toX s.cpu.a)

/-- `A8` TAY (R161). -/
def execTay (s : State) : Host.Outcome State Fault Refusal := .next (s.toY s.cpu.a)

/-- `8A` TXA (R162). -/
def execTxa (s : State) : Host.Outcome State Fault Refusal := .next (s.toA s.cpu.x)

/-- `98` TYA (R163). -/
def execTya (s : State) : Host.Outcome State Fault Refusal := .next (s.toA s.cpu.y)

/-- `9B` TXY (R164). -/
def execTxy (s : State) : Host.Outcome State Fault Refusal := .next ((s.setY s.cpu.x).flagsNZ s.cpu.xw s.cpu.x)

/-- `BB` TYX (R165). -/
def execTyx (s : State) : Host.Outcome State Fault Refusal := .next ((s.setX s.cpu.y).flagsNZ s.cpu.xw s.cpu.y)

/-- `BA` TSX (R166). -/
def execTsx (s : State) : Host.Outcome State Fault Refusal := .next (s.toX s.cpu.s)

/-- `9A` TXS (R167). -/
def execTxs (s : State) : Host.Outcome State Fault Refusal := .next (s.toS s.cpu.x)

/-- `5B` TCD (R168). -/
def execTcd (s : State) : Host.Outcome State Fault Refusal := .next ((s.setD s.cpu.a).flagsNZ .w16 s.cpu.a)

/-- `7B` TDC (R169). -/
def execTdc (s : State) : Host.Outcome State Fault Refusal := .next (s.toA16 s.cpu.d)

/-- `1B` TCS (R170). -/
def execTcs (s : State) : Host.Outcome State Fault Refusal := .next (s.toS s.cpu.a)

/-- `3B` TSC (R171). -/
def execTsc (s : State) : Host.Outcome State Fault Refusal := .next (s.toA16 s.cpu.s)

/-- `EB` XBA (R172). -/
def execXba (s : State) : Host.Outcome State Fault Refusal := .next (let r := swapBytes s.cpu.a; (s.setA r).flagsNZ .w8 r)

end Sys2Proof.Machine
end

