-- ==== Sys2Proof/Machine/Dispatch.lean ====
section
/-! DEFINITION. The dispatch: one arm for each constructor of Instr, each one direct call of its meaning. -/

namespace Sys2Proof.Machine

def exec (i : Instr) (s : State) : Host.Outcome State Fault Refusal :=
  match i with
  | .brk sig => Sys2Proof.Machine.execBrk sig s
  | .oraDpXInd d => Sys2Proof.Machine.execOraDpXInd d s
  | .cop sig => Sys2Proof.Machine.execCop sig s
  | .oraSr d => Sys2Proof.Machine.execOraSr d s
  | .tsbDp d => Sys2Proof.Machine.execTsbDp d s
  | .oraDp d => Sys2Proof.Machine.execOraDp d s
  | .aslDp d => Sys2Proof.Machine.execAslDp d s
  | .oraDpIndLong d => Sys2Proof.Machine.execOraDpIndLong d s
  | .php => Sys2Proof.Machine.execPhp s
  | .oraImm v => Sys2Proof.Machine.execOraImm v s
  | .aslA => Sys2Proof.Machine.execAslA s
  | .phd => Sys2Proof.Machine.execPhd s
  | .tsbAbs o => Sys2Proof.Machine.execTsbAbs o s
  | .oraAbs o => Sys2Proof.Machine.execOraAbs o s
  | .aslAbs o => Sys2Proof.Machine.execAslAbs o s
  | .oraLong a => Sys2Proof.Machine.execOraLong a s
  | .bpl r => Sys2Proof.Machine.execBpl r s
  | .oraDpIndY d => Sys2Proof.Machine.execOraDpIndY d s
  | .oraDpInd d => Sys2Proof.Machine.execOraDpInd d s
  | .oraSrIndY d => Sys2Proof.Machine.execOraSrIndY d s
  | .trbDp d => Sys2Proof.Machine.execTrbDp d s
  | .oraDpX d => Sys2Proof.Machine.execOraDpX d s
  | .aslDpX d => Sys2Proof.Machine.execAslDpX d s
  | .oraDpIndLongY d => Sys2Proof.Machine.execOraDpIndLongY d s
  | .clc => Sys2Proof.Machine.execClc s
  | .oraAbsY o => Sys2Proof.Machine.execOraAbsY o s
  | .incA => Sys2Proof.Machine.execIncA s
  | .tcs => Sys2Proof.Machine.execTcs s
  | .trbAbs o => Sys2Proof.Machine.execTrbAbs o s
  | .oraAbsX o => Sys2Proof.Machine.execOraAbsX o s
  | .aslAbsX o => Sys2Proof.Machine.execAslAbsX o s
  | .oraLongX a => Sys2Proof.Machine.execOraLongX a s
  | .jsrAbs o => Sys2Proof.Machine.execJsrAbs o s
  | .andDpXInd d => Sys2Proof.Machine.execAndDpXInd d s
  | .jsl a => Sys2Proof.Machine.execJsl a s
  | .andSr d => Sys2Proof.Machine.execAndSr d s
  | .bitDp d => Sys2Proof.Machine.execBitDp d s
  | .andDp d => Sys2Proof.Machine.execAndDp d s
  | .rolDp d => Sys2Proof.Machine.execRolDp d s
  | .andDpIndLong d => Sys2Proof.Machine.execAndDpIndLong d s
  | .plp => Sys2Proof.Machine.execPlp s
  | .andImm v => Sys2Proof.Machine.execAndImm v s
  | .rolA => Sys2Proof.Machine.execRolA s
  | .pld => Sys2Proof.Machine.execPld s
  | .bitAbs o => Sys2Proof.Machine.execBitAbs o s
  | .andAbs o => Sys2Proof.Machine.execAndAbs o s
  | .rolAbs o => Sys2Proof.Machine.execRolAbs o s
  | .andLong a => Sys2Proof.Machine.execAndLong a s
  | .bmi r => Sys2Proof.Machine.execBmi r s
  | .andDpIndY d => Sys2Proof.Machine.execAndDpIndY d s
  | .andDpInd d => Sys2Proof.Machine.execAndDpInd d s
  | .andSrIndY d => Sys2Proof.Machine.execAndSrIndY d s
  | .bitDpX d => Sys2Proof.Machine.execBitDpX d s
  | .andDpX d => Sys2Proof.Machine.execAndDpX d s
  | .rolDpX d => Sys2Proof.Machine.execRolDpX d s
  | .andDpIndLongY d => Sys2Proof.Machine.execAndDpIndLongY d s
  | .sec => Sys2Proof.Machine.execSec s
  | .andAbsY o => Sys2Proof.Machine.execAndAbsY o s
  | .decA => Sys2Proof.Machine.execDecA s
  | .tsc => Sys2Proof.Machine.execTsc s
  | .bitAbsX o => Sys2Proof.Machine.execBitAbsX o s
  | .andAbsX o => Sys2Proof.Machine.execAndAbsX o s
  | .rolAbsX o => Sys2Proof.Machine.execRolAbsX o s
  | .andLongX a => Sys2Proof.Machine.execAndLongX a s
  | .rti => Sys2Proof.Machine.execRti s
  | .eorDpXInd d => Sys2Proof.Machine.execEorDpXInd d s
  | .wdm b => Sys2Proof.Machine.execWdm b s
  | .eorSr d => Sys2Proof.Machine.execEorSr d s
  | .mvp dst src => Sys2Proof.Machine.execMvp dst src s
  | .eorDp d => Sys2Proof.Machine.execEorDp d s
  | .lsrDp d => Sys2Proof.Machine.execLsrDp d s
  | .eorDpIndLong d => Sys2Proof.Machine.execEorDpIndLong d s
  | .pha => Sys2Proof.Machine.execPha s
  | .eorImm v => Sys2Proof.Machine.execEorImm v s
  | .lsrA => Sys2Proof.Machine.execLsrA s
  | .phk => Sys2Proof.Machine.execPhk s
  | .jmpAbs o => Sys2Proof.Machine.execJmpAbs o s
  | .eorAbs o => Sys2Proof.Machine.execEorAbs o s
  | .lsrAbs o => Sys2Proof.Machine.execLsrAbs o s
  | .eorLong a => Sys2Proof.Machine.execEorLong a s
  | .bvc r => Sys2Proof.Machine.execBvc r s
  | .eorDpIndY d => Sys2Proof.Machine.execEorDpIndY d s
  | .eorDpInd d => Sys2Proof.Machine.execEorDpInd d s
  | .eorSrIndY d => Sys2Proof.Machine.execEorSrIndY d s
  | .mvn dst src => Sys2Proof.Machine.execMvn dst src s
  | .eorDpX d => Sys2Proof.Machine.execEorDpX d s
  | .lsrDpX d => Sys2Proof.Machine.execLsrDpX d s
  | .eorDpIndLongY d => Sys2Proof.Machine.execEorDpIndLongY d s
  | .cli => Sys2Proof.Machine.execCli s
  | .eorAbsY o => Sys2Proof.Machine.execEorAbsY o s
  | .phy => Sys2Proof.Machine.execPhy s
  | .tcd => Sys2Proof.Machine.execTcd s
  | .jmlLong a => Sys2Proof.Machine.execJmlLong a s
  | .eorAbsX o => Sys2Proof.Machine.execEorAbsX o s
  | .lsrAbsX o => Sys2Proof.Machine.execLsrAbsX o s
  | .eorLongX a => Sys2Proof.Machine.execEorLongX a s
  | .rts => Sys2Proof.Machine.execRts s
  | .adcDpXInd d => Sys2Proof.Machine.execAdcDpXInd d s
  | .per r => Sys2Proof.Machine.execPer r s
  | .adcSr d => Sys2Proof.Machine.execAdcSr d s
  | .stzDp d => Sys2Proof.Machine.execStzDp d s
  | .adcDp d => Sys2Proof.Machine.execAdcDp d s
  | .rorDp d => Sys2Proof.Machine.execRorDp d s
  | .adcDpIndLong d => Sys2Proof.Machine.execAdcDpIndLong d s
  | .pla => Sys2Proof.Machine.execPla s
  | .adcImm v => Sys2Proof.Machine.execAdcImm v s
  | .rorA => Sys2Proof.Machine.execRorA s
  | .rtl => Sys2Proof.Machine.execRtl s
  | .jmpInd o => Sys2Proof.Machine.execJmpInd o s
  | .adcAbs o => Sys2Proof.Machine.execAdcAbs o s
  | .rorAbs o => Sys2Proof.Machine.execRorAbs o s
  | .adcLong a => Sys2Proof.Machine.execAdcLong a s
  | .bvs r => Sys2Proof.Machine.execBvs r s
  | .adcDpIndY d => Sys2Proof.Machine.execAdcDpIndY d s
  | .adcDpInd d => Sys2Proof.Machine.execAdcDpInd d s
  | .adcSrIndY d => Sys2Proof.Machine.execAdcSrIndY d s
  | .stzDpX d => Sys2Proof.Machine.execStzDpX d s
  | .adcDpX d => Sys2Proof.Machine.execAdcDpX d s
  | .rorDpX d => Sys2Proof.Machine.execRorDpX d s
  | .adcDpIndLongY d => Sys2Proof.Machine.execAdcDpIndLongY d s
  | .sei => Sys2Proof.Machine.execSei s
  | .adcAbsY o => Sys2Proof.Machine.execAdcAbsY o s
  | .ply => Sys2Proof.Machine.execPly s
  | .tdc => Sys2Proof.Machine.execTdc s
  | .jmpIndX o => Sys2Proof.Machine.execJmpIndX o s
  | .adcAbsX o => Sys2Proof.Machine.execAdcAbsX o s
  | .rorAbsX o => Sys2Proof.Machine.execRorAbsX o s
  | .adcLongX a => Sys2Proof.Machine.execAdcLongX a s
  | .bra r => Sys2Proof.Machine.execBra r s
  | .staDpXInd d => Sys2Proof.Machine.execStaDpXInd d s
  | .brl r => Sys2Proof.Machine.execBrl r s
  | .staSr d => Sys2Proof.Machine.execStaSr d s
  | .styDp d => Sys2Proof.Machine.execStyDp d s
  | .staDp d => Sys2Proof.Machine.execStaDp d s
  | .stxDp d => Sys2Proof.Machine.execStxDp d s
  | .staDpIndLong d => Sys2Proof.Machine.execStaDpIndLong d s
  | .dey => Sys2Proof.Machine.execDey s
  | .bitImm v => Sys2Proof.Machine.execBitImm v s
  | .txa => Sys2Proof.Machine.execTxa s
  | .phb => Sys2Proof.Machine.execPhb s
  | .styAbs o => Sys2Proof.Machine.execStyAbs o s
  | .staAbs o => Sys2Proof.Machine.execStaAbs o s
  | .stxAbs o => Sys2Proof.Machine.execStxAbs o s
  | .staLong a => Sys2Proof.Machine.execStaLong a s
  | .bcc r => Sys2Proof.Machine.execBcc r s
  | .staDpIndY d => Sys2Proof.Machine.execStaDpIndY d s
  | .staDpInd d => Sys2Proof.Machine.execStaDpInd d s
  | .staSrIndY d => Sys2Proof.Machine.execStaSrIndY d s
  | .styDpX d => Sys2Proof.Machine.execStyDpX d s
  | .staDpX d => Sys2Proof.Machine.execStaDpX d s
  | .stxDpY d => Sys2Proof.Machine.execStxDpY d s
  | .staDpIndLongY d => Sys2Proof.Machine.execStaDpIndLongY d s
  | .tya => Sys2Proof.Machine.execTya s
  | .staAbsY o => Sys2Proof.Machine.execStaAbsY o s
  | .txs => Sys2Proof.Machine.execTxs s
  | .txy => Sys2Proof.Machine.execTxy s
  | .stzAbs o => Sys2Proof.Machine.execStzAbs o s
  | .staAbsX o => Sys2Proof.Machine.execStaAbsX o s
  | .stzAbsX o => Sys2Proof.Machine.execStzAbsX o s
  | .staLongX a => Sys2Proof.Machine.execStaLongX a s
  | .ldyImm v => Sys2Proof.Machine.execLdyImm v s
  | .ldaDpXInd d => Sys2Proof.Machine.execLdaDpXInd d s
  | .ldxImm v => Sys2Proof.Machine.execLdxImm v s
  | .ldaSr d => Sys2Proof.Machine.execLdaSr d s
  | .ldyDp d => Sys2Proof.Machine.execLdyDp d s
  | .ldaDp d => Sys2Proof.Machine.execLdaDp d s
  | .ldxDp d => Sys2Proof.Machine.execLdxDp d s
  | .ldaDpIndLong d => Sys2Proof.Machine.execLdaDpIndLong d s
  | .tay => Sys2Proof.Machine.execTay s
  | .ldaImm v => Sys2Proof.Machine.execLdaImm v s
  | .tax => Sys2Proof.Machine.execTax s
  | .plb => Sys2Proof.Machine.execPlb s
  | .ldyAbs o => Sys2Proof.Machine.execLdyAbs o s
  | .ldaAbs o => Sys2Proof.Machine.execLdaAbs o s
  | .ldxAbs o => Sys2Proof.Machine.execLdxAbs o s
  | .ldaLong a => Sys2Proof.Machine.execLdaLong a s
  | .bcs r => Sys2Proof.Machine.execBcs r s
  | .ldaDpIndY d => Sys2Proof.Machine.execLdaDpIndY d s
  | .ldaDpInd d => Sys2Proof.Machine.execLdaDpInd d s
  | .ldaSrIndY d => Sys2Proof.Machine.execLdaSrIndY d s
  | .ldyDpX d => Sys2Proof.Machine.execLdyDpX d s
  | .ldaDpX d => Sys2Proof.Machine.execLdaDpX d s
  | .ldxDpY d => Sys2Proof.Machine.execLdxDpY d s
  | .ldaDpIndLongY d => Sys2Proof.Machine.execLdaDpIndLongY d s
  | .clv => Sys2Proof.Machine.execClv s
  | .ldaAbsY o => Sys2Proof.Machine.execLdaAbsY o s
  | .tsx => Sys2Proof.Machine.execTsx s
  | .tyx => Sys2Proof.Machine.execTyx s
  | .ldyAbsX o => Sys2Proof.Machine.execLdyAbsX o s
  | .ldaAbsX o => Sys2Proof.Machine.execLdaAbsX o s
  | .ldxAbsY o => Sys2Proof.Machine.execLdxAbsY o s
  | .ldaLongX a => Sys2Proof.Machine.execLdaLongX a s
  | .cpyImm v => Sys2Proof.Machine.execCpyImm v s
  | .cmpDpXInd d => Sys2Proof.Machine.execCmpDpXInd d s
  | .rep k => Sys2Proof.Machine.execRep k s
  | .cmpSr d => Sys2Proof.Machine.execCmpSr d s
  | .cpyDp d => Sys2Proof.Machine.execCpyDp d s
  | .cmpDp d => Sys2Proof.Machine.execCmpDp d s
  | .decDp d => Sys2Proof.Machine.execDecDp d s
  | .cmpDpIndLong d => Sys2Proof.Machine.execCmpDpIndLong d s
  | .iny => Sys2Proof.Machine.execIny s
  | .cmpImm v => Sys2Proof.Machine.execCmpImm v s
  | .dex => Sys2Proof.Machine.execDex s
  | .wai => Sys2Proof.Machine.execWai s
  | .cpyAbs o => Sys2Proof.Machine.execCpyAbs o s
  | .cmpAbs o => Sys2Proof.Machine.execCmpAbs o s
  | .decAbs o => Sys2Proof.Machine.execDecAbs o s
  | .cmpLong a => Sys2Proof.Machine.execCmpLong a s
  | .bne r => Sys2Proof.Machine.execBne r s
  | .cmpDpIndY d => Sys2Proof.Machine.execCmpDpIndY d s
  | .cmpDpInd d => Sys2Proof.Machine.execCmpDpInd d s
  | .cmpSrIndY d => Sys2Proof.Machine.execCmpSrIndY d s
  | .pei d => Sys2Proof.Machine.execPei d s
  | .cmpDpX d => Sys2Proof.Machine.execCmpDpX d s
  | .decDpX d => Sys2Proof.Machine.execDecDpX d s
  | .cmpDpIndLongY d => Sys2Proof.Machine.execCmpDpIndLongY d s
  | .cld => Sys2Proof.Machine.execCld s
  | .cmpAbsY o => Sys2Proof.Machine.execCmpAbsY o s
  | .phx => Sys2Proof.Machine.execPhx s
  | .stp => Sys2Proof.Machine.execStp s
  | .jmlInd o => Sys2Proof.Machine.execJmlInd o s
  | .cmpAbsX o => Sys2Proof.Machine.execCmpAbsX o s
  | .decAbsX o => Sys2Proof.Machine.execDecAbsX o s
  | .cmpLongX a => Sys2Proof.Machine.execCmpLongX a s
  | .cpxImm v => Sys2Proof.Machine.execCpxImm v s
  | .sbcDpXInd d => Sys2Proof.Machine.execSbcDpXInd d s
  | .sep k => Sys2Proof.Machine.execSep k s
  | .sbcSr d => Sys2Proof.Machine.execSbcSr d s
  | .cpxDp d => Sys2Proof.Machine.execCpxDp d s
  | .sbcDp d => Sys2Proof.Machine.execSbcDp d s
  | .incDp d => Sys2Proof.Machine.execIncDp d s
  | .sbcDpIndLong d => Sys2Proof.Machine.execSbcDpIndLong d s
  | .inx => Sys2Proof.Machine.execInx s
  | .sbcImm v => Sys2Proof.Machine.execSbcImm v s
  | .nop => Sys2Proof.Machine.execNop s
  | .xba => Sys2Proof.Machine.execXba s
  | .cpxAbs o => Sys2Proof.Machine.execCpxAbs o s
  | .sbcAbs o => Sys2Proof.Machine.execSbcAbs o s
  | .incAbs o => Sys2Proof.Machine.execIncAbs o s
  | .sbcLong a => Sys2Proof.Machine.execSbcLong a s
  | .beq r => Sys2Proof.Machine.execBeq r s
  | .sbcDpIndY d => Sys2Proof.Machine.execSbcDpIndY d s
  | .sbcDpInd d => Sys2Proof.Machine.execSbcDpInd d s
  | .sbcSrIndY d => Sys2Proof.Machine.execSbcSrIndY d s
  | .pea v => Sys2Proof.Machine.execPea v s
  | .sbcDpX d => Sys2Proof.Machine.execSbcDpX d s
  | .incDpX d => Sys2Proof.Machine.execIncDpX d s
  | .sbcDpIndLongY d => Sys2Proof.Machine.execSbcDpIndLongY d s
  | .sed => Sys2Proof.Machine.execSed s
  | .sbcAbsY o => Sys2Proof.Machine.execSbcAbsY o s
  | .plx => Sys2Proof.Machine.execPlx s
  | .xce => Sys2Proof.Machine.execXce s
  | .jsrIndX o => Sys2Proof.Machine.execJsrIndX o s
  | .sbcAbsX o => Sys2Proof.Machine.execSbcAbsX o s
  | .incAbsX o => Sys2Proof.Machine.execIncAbsX o s
  | .sbcLongX a => Sys2Proof.Machine.execSbcLongX a s

end Sys2Proof.Machine
end

