-- ==== Sys2Proof/Machine/Fetch.lean ====
section
/-! DEFINITION. Fetching one instruction (R90 to R92): every byte is a Bus read at `PB:PC`, and `PC` wraps inside the
bank. The cells a fetch reads from, for placing an instruction there. -/

namespace Sys2Proof.Machine

/-- `Fetch8()` (R9, R91). -/
def State.fetch8 (s : State) : Byte × State :=
  let r := s.bus.read (mkAddr s.cpu.pb s.cpu.pc)
  (r.1, (s.setBus r.2).setPC (s.cpu.pc + 1))

/-- `n` bytes in address order (R91). -/
def State.fetchBytes : Nat → State → List Byte × State
  | 0, s => ([], s)
  | n + 1, s =>
    let r := s.fetch8
    let rest := State.fetchBytes n r.2
    (r.1 :: rest.1, rest.2)

/-- Fetch the opcode byte, then as many operand bytes as the opcode and the widths at that moment ask for (R90, R92), and decode.
The state has `PC` at the next instruction. -/
def State.fetchInstr (s : State) : Except DecodeError (Instr × List Byte) × State :=
  let op := s.fetch8
  let operand := State.fetchBytes ((shapeOf op.1).operandBytes s.cpu.m8 s.cpu.x8) op.2
  (decode s.cpu.m8 s.cpu.x8 (op.1 :: operand.1), operand.2)

/-- `s` with the bytes placed in the cells at `PB:PC` and on, in address order (R91). -/
def State.placeAtPC : List Byte → Nat → State → State
  | [], _, s => s
  | v :: rest, i, s =>
    State.placeAtPC rest (i + 1) (s.setBus (s.bus.place (inBank (mkAddr s.cpu.pb s.cpu.pc) i) v))

/-- The addresses an instruction fetched at `PB:PC` can take bytes from: at most four (R92). -/
def State.fetchAddrs (s : State) : List Addr := [0, 1, 2, 3].map (inBank (mkAddr s.cpu.pb s.cpu.pc))

end Sys2Proof.Machine
end

