-- ==== Sys2Proof/Machine/Boundary.lean ====
section
/-! DEFINITION. What happens at an instruction boundary: the environment's events land (R430), then the first applicable move
of the step relation R353 is taken. -/

namespace Sys2Proof.Machine

/-- An NMI edge sets the latch; a second edge while it is set is lost (R351). -/
def State.nmiEdge (s : State) : State := s.setNmiReq true

/-- One event of the environment (R430). -/
def State.applyEvent (s : State) : EnvEvent → State
  | .reset lows => { s with resetReq := some lows }
  | .nmiEdge => s.nmiEdge
  | .vblank =>
    let s1 := s.setBus { s.bus with nmiFlag := true }
    if s.bus.nmitimen.getLsbD 7 then s1.nmiEdge else s1
  | .irqLevel level => { s with irqLine := level }
  | .memory a v => s.setBus (s.bus.place a v)
  | .mailbox port v => s.setBus { s.bus with fromApu := s.bus.fromApu.set port v }
  | .pad w => s.setBus { s.bus with padLive := w }
  | .unitChange n => s.setBus (s.bus.tell (.change n))
  | .loadState c => { s with cpu := c }
  | .loadBus b => s.setBus (s.bus.loaded b)

/-- The events scripted for this boundary land, in order; past the script's end the environment is quiet. -/
def State.pollEnv (s : State) : State :=
  match s.env with
  | [] => s
  | events :: rest => events.foldl State.applyEvent { s with env := rest }

/-- The moves of the step relation (R353). -/
inductive Move where
  | reset (lows : ResetLows)
  | idle
  | nmi
  | irq
  | wake
  | instr
  deriving DecidableEq, Repr

/-- The first move that applies at this boundary (R353, R354, R355, R359). -/
def State.move (s : State) : Move :=
  match s.resetReq with
  | some lows => .reset lows
  | none =>
    if s.cpu.run = .stopped then .idle
    else if s.cpu.nmiReq then .nmi
    else if s.irqLine && !flagGet s.cpu.p .i then .irq
    else if s.cpu.run = .waiting then (if s.irqLine then .wake else .idle)
    else .instr

/-- The budget is set to the cost of the instruction or entry just performed: a free value (R39, I18, log 6). -/
def State.charge (s : State) : State :=
  { s.setBudget (Config.stepCost s.costDraws) with costDraws := s.costDraws + 1 }

/-- An interrupt taken at the boundary (R353): it ends a wait and enters through its vector. -/
def State.takeInterrupt (s : State) (kind : IntKind) : State := (s.setRun .running).interrupt kind

/-- One instruction step (R90): fetch, decode, execute. -/
def instrStep (s : State) : Host.Outcome State Fault Refusal :=
  let f := s.fetchInstr
  match f.1 with
  | .error _ => .refused .fetchTruncated
  | .ok (i, _) =>
    match exec i f.2 with
    | .next t => .next t.charge
    | .fault r => .fault r
    | .refused r => .refused r

/-- `BoundaryStep()` (R353). -/
def boundaryStep (s : State) : Host.Outcome State Fault Refusal :=
  match s.move with
  | .reset lows => .next (s.resetCpu lows)
  | .idle => .next s
  | .nmi => .next (s.takeInterrupt .nmi).charge
  | .irq => .next (s.takeInterrupt .irq).charge
  | .wake => .next (s.setRun .running)
  | .instr => instrStep s

end Sys2Proof.Machine
end

