-- ==== Sys2Proof/Machine/Step.lean ====
section
/-! DEFINITION. One step of the machine, and placing an instruction where the next step fetches it. -/

namespace Sys2Proof.Machine

/-- One step (R11, R353): the environment's events for this boundary land, then one reset, interrupt entry, wake, idle step or
whole instruction. -/
def step (s : State) : Host.Outcome State Fault Refusal := boundaryStep s.pollEnv

/-- `s` with a table word stored where the next step fetches, and nothing in the way of the fetch: no request pending, the CPU
running, no event at this boundary, no cheat patch on those bytes (log 20). -/
def State.withFetchWord (s : State) (nbits w : Nat) : State :=
  let s1 := State.placeAtPC (tableBytes nbits w) 0 s
  { s1 with
    cpu := { s1.cpu with run := .running, nmiReq := false }
    irqLine := false
    resetReq := none
    bus := { s1.bus with patches := s.bus.patches.filter (fun p => !s.fetchAddrs.contains p.addr) }
    env := [] :: s1.env }

end Sys2Proof.Machine
end

