-- ==== Sys2Proof/Machine/Clock.lean ====
section
/-! DEFINITION. The `clock()` contract (R39): the budget counts down, and at zero the next step is performed. -/

namespace Sys2Proof.Machine

/-- `clock()` (R39, R40). The step it performs sets the budget to the cost of what it did. -/
def clock (s : State) : Host.Outcome State Fault Refusal :=
  match s.cpu.budget with
  | 0 => step s
  | n + 1 => .next (s.setBudget n)

end Sys2Proof.Machine
end

