-- ==== Sys2Proof/Safety.lean ====
section
/-! DEFINITION. What a sound state and a safe run are: the invariants of R32 with the memory's canonical form, and a run that
never stops (R363). -/

namespace Sys2Proof.Machine

/-- The register invariants of R32, items 1 and 2. -/
def Cpu.Inv (c : Cpu) : Prop :=
  (c.x8 = true → hiByte c.x = 0x00 ∧ hiByte c.y = 0x00) ∧ (c.e = true → hiByte c.s = 0x01)

/-- A saved state that an event loads is one that the machine can have been in (R430: it was saved by this CPU). -/
def EnvEvent.sound : EnvEvent → Prop
  | .loadState c => c.Inv
  | .loadBus b => Memory.wf b.mem
  | .reset _ => True
  | .nmiEdge => True
  | .vblank => True
  | .irqLevel _ => True
  | .memory _ _ => True
  | .mailbox _ _ => True
  | .pad _ => True
  | .unitChange _ => True

/-- The invariant of the machine: the registers as R32 says, the memory in canonical form, the script sound. -/
def State.Inv (s : State) : Prop :=
  s.cpu.Inv ∧ Memory.wf s.bus.mem ∧ ∀ events ∈ s.env, ∀ ev ∈ events, ev.sound

/-- The outcome is a next state that meets `P`. -/
def NextWith (P : State → Prop) : Host.Outcome State Fault Refusal → Prop
  | .next s => P s
  | .fault _ => False
  | .refused _ => False

/-- A safe run of `n` steps from `s`: every step answers a next state, and each state on the way meets the invariant. -/
def SafeRun : Nat → State → Prop
  | 0, s => s.Inv
  | n + 1, s => s.Inv ∧ NextWith (SafeRun n) (step s)

end Sys2Proof.Machine
end

