-- ==== Sys2Proof/Certificates/Slice0/Obligations.lean ====
section
/-! DEFINITION. The statements for the provers. The vocabulary (namespace Sys2Proof.Claims) says in plain numbers what a rule
says: values as natural numbers, the status byte as its eight flags (R27), memory accesses as sequences of single Bus reads and
writes in the order the rules give (R60, R68). Every statement about an instruction gives the whole next state, so what it does
not name is unchanged. `exec i s` runs with `PC` already at the next instruction (log 21). -/

namespace Sys2Proof.Claims

open Sys2Proof.Machine

/-! Numbers, flags and widths. -/

/-- Bit `k` of a byte. -/
def bitOf (p : Byte) (k : Nat) : Bool := p.toNat / 2 ^ k % 2 == 1

/-- Byte `j` of a number, from the lowest. -/
def byteOf (v j : Nat) : Byte := BitVec.ofNat 8 (v / 256 ^ j)

/-- The number that bytes stand for, lowest first (R61, R65). -/
def leNat : List Byte → Nat
  | [] => 0
  | b :: rest => b.toNat + 256 * leNat rest

/-- The bytes of a width (R9: `w/8`). -/
def bytesOf : Width → Nat
  | .w8 => 1
  | .w16 => 2

/-- `v[w-1]` of a result (R9). -/
def isNeg (w : Width) (v : Nat) : Bool := v / 2 ^ (w.bits - 1) % 2 == 1

/-- `(v & mask(w)) = 0` (R9). -/
def isZero (w : Width) (v : Nat) : Bool := v % 2 ^ w.bits == 0

/-- The flags an instruction writes; the others are unchanged (R10). -/
structure FlagWrites where
  n : Option Bool := none
  v : Option Bool := none
  m : Option Bool := none
  x : Option Bool := none
  d : Option Bool := none
  i : Option Bool := none
  z : Option Bool := none
  c : Option Bool := none

/-- The status byte with some flags written, at the bit positions of R27. -/
def status (p : Byte) (f : FlagWrites) : Byte :=
  BitVec.ofNat 8
    (128 * (f.n.getD (bitOf p 7)).toNat + 64 * (f.v.getD (bitOf p 6)).toNat + 32 * (f.m.getD (bitOf p 5)).toNat +
      16 * (f.x.getD (bitOf p 4)).toNat + 8 * (f.d.getD (bitOf p 3)).toNat + 4 * (f.i.getD (bitOf p 2)).toNat +
      2 * (f.z.getD (bitOf p 1)).toNat + (f.c.getD (bitOf p 0)).toNat)

/-- `SetNZ(v, w)` (R9). -/
def nz (w : Width) (v : Nat) : FlagWrites := { n := some (isNeg w v), z := some (isZero w v) }

/-- `A & mask(w)`, and likewise for an index register. -/
def low (w : Width) (r : Word) : Nat := r.toNat % 2 ^ w.bits

/-- The accumulator after a `w`-bit result is written to it: `AH` is kept at 8 bits (R21). -/
def intoAcc (w : Width) (a : Word) (r : Nat) : Word :=
  match w with
  | .w8 => BitVec.ofNat 16 (a.toNat / 256 * 256 + r % 256)
  | .w16 => BitVec.ofNat 16 r

/-- The registers after `WidthDiscipline()` (R31). -/
def disciplined (c : Cpu) : Cpu :=
  { c with
    a := if c.e || bitOf c.p 5 then BitVec.ofNat 16 (c.a.toNat % 256) else c.a
    x := if c.e || bitOf c.p 4 then BitVec.ofNat 16 (c.x.toNat % 256) else c.x
    y := if c.e || bitOf c.p 4 then BitVec.ofNat 16 (c.y.toNat % 256) else c.y
    s := if c.e then BitVec.ofNat 16 (256 + c.s.toNat % 256) else c.s }

/-! Memory accesses as single Bus reads and writes. -/

/-- `bank : (off & $FFFF)` (R8). -/
def byteAddr (bank off : Nat) : Addr := BitVec.ofNat 24 (bank * 65536 + off % 65536)

/-- `n` Bus reads at `bank:off`, `bank:off+1`, … in the bank, in that order (R61, R62): the bytes and the Bus after. -/
def readSeq : Nat → Nat → Nat → Bus → List Byte × Bus
  | 0, _, _, b => ([], b)
  | n + 1, bank, off, b =>
    let r := b.read (byteAddr bank off)
    let rest := readSeq n bank (off + 1) r.2
    (r.1 :: rest.1, rest.2)

/-- `MemRead(bank:off, n)` (R61): the number and the Bus after. -/
def leRead (n bank off : Nat) (b : Bus) : Nat × Bus := (leNat (readSeq n bank off b).1, (readSeq n bank off b).2)

/-- `MemWrite(bank:off, n, v)` (R63): low byte first. -/
def leWrite : Nat → Nat → Nat → Nat → Bus → Bus
  | 0, _, _, _, b => b
  | n + 1, bank, off, v, b => leWrite n bank (off + 1) (v / 256) (b.write (byteAddr bank off) (byteOf v 0))

/-- The addresses of an `n`-byte access at `a` (R61, R63). -/
def accessed (n : Nat) (a : Addr) : List Addr :=
  (List.range n).map fun j => byteAddr (a.toNat / 65536) (a.toNat % 65536 + j)

/-- `MemWrite(a, w/8, v)`. -/
def storeAt (w : Width) (a : Addr) (v : Nat) (b : Bus) : Bus :=
  leWrite (bytesOf w) (a.toNat / 65536) (a.toNat % 65536) v b

/-- Every cell of memory reads as before. -/
def SameBytes (b b' : Bus) : Prop := ∀ k, b'.mem.read k = b.mem.read k

/-- Every cell of memory reads as before, but for the cells that stores to the addresses in `as` change. A store to `$420B`
runs a whole transfer (R77), so it is no part of this. -/
def OnlyCells (as : List Addr) (b b' : Bus) : Prop :=
  (∀ a ∈ as, isGdmaTrigger b.params a = false) →
    ∀ k, (∀ a ∈ as, ramCellOf b.params a ≠ some k) → b'.mem.read k = b.mem.read k

/-- The addresses are distinct plain cells: work RAM or cartridge RAM, no two of them one cell, no cheat patch. -/
def PlainCells (as : List Addr) (b : Bus) : Prop :=
  b.patches = [] ∧ Memory.wf b.mem ∧ ∃ ks : List Nat, as.map (ramCellOf b.params) = ks.map some ∧ ks.Nodup

/-! The stack (R33 to R36). -/

/-- `S` after a push (R33). -/
def below (e : Bool) (s : Word) : Word :=
  if e then BitVec.ofNat 16 (256 + (s.toNat + 255) % 256) else BitVec.ofNat 16 (s.toNat + 65535)

/-- `S` after a pull (R34). -/
def above (e : Bool) (s : Word) : Word :=
  if e then BitVec.ofNat 16 (256 + (s.toNat + 1) % 256) else BitVec.ofNat 16 (s.toNat + 1)

/-- The bytes pushed one after the other (R33): the new `S` and the Bus after. -/
def pushes (e : Bool) : List Byte → Word × Bus → Word × Bus
  | [], r => r
  | v :: rest, r => pushes e rest (below e r.1, r.2.write (byteAddr 0 r.1.toNat) v)

/-- The addresses that pushes write, in order (R33). -/
def pushAddrs (e : Bool) : Nat → Word → List Addr
  | 0, _ => []
  | n + 1, s => byteAddr 0 s.toNat :: pushAddrs e n (below e s)

/-- `n` bytes pulled (R34): the bytes in pull order, the new `S` and the Bus after. -/
def pulls (e : Bool) : Nat → Word × Bus → List Byte × Word × Bus
  | 0, r => ([], r)
  | n + 1, r =>
    let v := r.2.read (byteAddr 0 (above e r.1).toNat)
    let rest := pulls e n (above e r.1, v.2)
    (v.1 :: rest.1, rest.2)

/-- The bytes of a 16-bit push, in push order: high, then low (R35). -/
def pushWord (v : Nat) : List Byte := [byteOf v 1, byteOf v 0]

/-- The bytes of a push at a width. -/
def pushAt (w : Width) (v : Word) : List Byte :=
  match w with
  | .w8 => [byteOf v.toNat 0]
  | .w16 => pushWord v.toNat

/-- The state after pushes and a change of the registers `post` that follows them. -/
def afterPushes (bytes : List Byte) (post : Cpu → Cpu) (s : State) : State :=
  let r := pushes s.cpu.e bytes (s.cpu.s, s.bus)
  { s with cpu := post { s.cpu with s := r.1 }, bus := r.2 }

/-- The state after `n` bytes are pulled and a change of the registers by the number they stand for. -/
def afterPulls (n : Nat) (post : Nat → Cpu → Cpu) (s : State) : State :=
  let r := pulls s.cpu.e n (s.cpu.s, s.bus)
  { s with cpu := post (leNat r.1) { s.cpu with s := r.2.1 }, bus := r.2.2 }

/-! Instruction forms: for each instruction and operand its opcode byte, as its rule's Encoding line has it, and its
constructor. -/

/-- The operand bytes of a memory mode (R93, R101 to R115). -/
def modeBytes : MemMode → List Byte
  | .abs o | .absX o | .absY o => [byteOf o.toNat 0, byteOf o.toNat 1]
  | .long a | .longX a => [byteOf a.toNat 0, byteOf a.toNat 1, byteOf a.toNat 2]
  | .dp d | .dpX d | .dpY d | .dpInd d | .dpIndLong d | .dpIndY d | .dpIndLongY d | .dpXInd d | .sr d | .srIndY d => [d]

/-- The operand bytes of an operand that is read (R100). -/
def operandBytes : Operand → List Byte
  | .imm (.b8 v) => [v]
  | .imm (.b16 v) => [byteOf v.toNat 0, byteOf v.toNat 1]
  | .mem m => modeBytes m

/-- The operand bytes of a read-modify-write operand (R116). -/
def rmwBytes : RmwOperand → List Byte
  | .acc => []
  | .mem m => modeBytes m

/-- The forms of LDA (R140). -/
def ldaForms : Operand → Option (Byte × Instr)
  | .mem (.dpXInd d) => some (0xA1, .ldaDpXInd d)
  | .mem (.sr d) => some (0xA3, .ldaSr d)
  | .mem (.dp d) => some (0xA5, .ldaDp d)
  | .mem (.dpIndLong d) => some (0xA7, .ldaDpIndLong d)
  | .imm v => some (0xA9, .ldaImm v)
  | .mem (.abs o) => some (0xAD, .ldaAbs o)
  | .mem (.long a) => some (0xAF, .ldaLong a)
  | .mem (.dpIndY d) => some (0xB1, .ldaDpIndY d)
  | .mem (.dpInd d) => some (0xB2, .ldaDpInd d)
  | .mem (.srIndY d) => some (0xB3, .ldaSrIndY d)
  | .mem (.dpX d) => some (0xB5, .ldaDpX d)
  | .mem (.dpIndLongY d) => some (0xB7, .ldaDpIndLongY d)
  | .mem (.absY o) => some (0xB9, .ldaAbsY o)
  | .mem (.absX o) => some (0xBD, .ldaAbsX o)
  | .mem (.longX a) => some (0xBF, .ldaLongX a)
  | _ => none

/-- The forms of LDX (R141). -/
def ldxForms : Operand → Option (Byte × Instr)
  | .imm v => some (0xA2, .ldxImm v)
  | .mem (.dp d) => some (0xA6, .ldxDp d)
  | .mem (.abs o) => some (0xAE, .ldxAbs o)
  | .mem (.dpY d) => some (0xB6, .ldxDpY d)
  | .mem (.absY o) => some (0xBE, .ldxAbsY o)
  | _ => none

/-- The forms of LDY (R142). -/
def ldyForms : Operand → Option (Byte × Instr)
  | .imm v => some (0xA0, .ldyImm v)
  | .mem (.dp d) => some (0xA4, .ldyDp d)
  | .mem (.abs o) => some (0xAC, .ldyAbs o)
  | .mem (.dpX d) => some (0xB4, .ldyDpX d)
  | .mem (.absX o) => some (0xBC, .ldyAbsX o)
  | _ => none

/-- The forms of ADC (R184). -/
def adcForms : Operand → Option (Byte × Instr)
  | .mem (.dpXInd d) => some (0x61, .adcDpXInd d)
  | .mem (.sr d) => some (0x63, .adcSr d)
  | .mem (.dp d) => some (0x65, .adcDp d)
  | .mem (.dpIndLong d) => some (0x67, .adcDpIndLong d)
  | .imm v => some (0x69, .adcImm v)
  | .mem (.abs o) => some (0x6D, .adcAbs o)
  | .mem (.long a) => some (0x6F, .adcLong a)
  | .mem (.dpIndY d) => some (0x71, .adcDpIndY d)
  | .mem (.dpInd d) => some (0x72, .adcDpInd d)
  | .mem (.srIndY d) => some (0x73, .adcSrIndY d)
  | .mem (.dpX d) => some (0x75, .adcDpX d)
  | .mem (.dpIndLongY d) => some (0x77, .adcDpIndLongY d)
  | .mem (.absY o) => some (0x79, .adcAbsY o)
  | .mem (.absX o) => some (0x7D, .adcAbsX o)
  | .mem (.longX a) => some (0x7F, .adcLongX a)
  | _ => none

/-- The forms of SBC (R185). -/
def sbcForms : Operand → Option (Byte × Instr)
  | .mem (.dpXInd d) => some (0xE1, .sbcDpXInd d)
  | .mem (.sr d) => some (0xE3, .sbcSr d)
  | .mem (.dp d) => some (0xE5, .sbcDp d)
  | .mem (.dpIndLong d) => some (0xE7, .sbcDpIndLong d)
  | .imm v => some (0xE9, .sbcImm v)
  | .mem (.abs o) => some (0xED, .sbcAbs o)
  | .mem (.long a) => some (0xEF, .sbcLong a)
  | .mem (.dpIndY d) => some (0xF1, .sbcDpIndY d)
  | .mem (.dpInd d) => some (0xF2, .sbcDpInd d)
  | .mem (.srIndY d) => some (0xF3, .sbcSrIndY d)
  | .mem (.dpX d) => some (0xF5, .sbcDpX d)
  | .mem (.dpIndLongY d) => some (0xF7, .sbcDpIndLongY d)
  | .mem (.absY o) => some (0xF9, .sbcAbsY o)
  | .mem (.absX o) => some (0xFD, .sbcAbsX o)
  | .mem (.longX a) => some (0xFF, .sbcLongX a)
  | _ => none

/-- The forms of CMP (R187). -/
def cmpForms : Operand → Option (Byte × Instr)
  | .mem (.dpXInd d) => some (0xC1, .cmpDpXInd d)
  | .mem (.sr d) => some (0xC3, .cmpSr d)
  | .mem (.dp d) => some (0xC5, .cmpDp d)
  | .mem (.dpIndLong d) => some (0xC7, .cmpDpIndLong d)
  | .imm v => some (0xC9, .cmpImm v)
  | .mem (.abs o) => some (0xCD, .cmpAbs o)
  | .mem (.long a) => some (0xCF, .cmpLong a)
  | .mem (.dpIndY d) => some (0xD1, .cmpDpIndY d)
  | .mem (.dpInd d) => some (0xD2, .cmpDpInd d)
  | .mem (.srIndY d) => some (0xD3, .cmpSrIndY d)
  | .mem (.dpX d) => some (0xD5, .cmpDpX d)
  | .mem (.dpIndLongY d) => some (0xD7, .cmpDpIndLongY d)
  | .mem (.absY o) => some (0xD9, .cmpAbsY o)
  | .mem (.absX o) => some (0xDD, .cmpAbsX o)
  | .mem (.longX a) => some (0xDF, .cmpLongX a)
  | _ => none

/-- The forms of CPX (R188). -/
def cpxForms : Operand → Option (Byte × Instr)
  | .imm v => some (0xE0, .cpxImm v)
  | .mem (.dp d) => some (0xE4, .cpxDp d)
  | .mem (.abs o) => some (0xEC, .cpxAbs o)
  | _ => none

/-- The forms of CPY (R189). -/
def cpyForms : Operand → Option (Byte × Instr)
  | .imm v => some (0xC0, .cpyImm v)
  | .mem (.dp d) => some (0xC4, .cpyDp d)
  | .mem (.abs o) => some (0xCC, .cpyAbs o)
  | _ => none

/-- The forms of AND (R210). -/
def andForms : Operand → Option (Byte × Instr)
  | .mem (.dpXInd d) => some (0x21, .andDpXInd d)
  | .mem (.sr d) => some (0x23, .andSr d)
  | .mem (.dp d) => some (0x25, .andDp d)
  | .mem (.dpIndLong d) => some (0x27, .andDpIndLong d)
  | .imm v => some (0x29, .andImm v)
  | .mem (.abs o) => some (0x2D, .andAbs o)
  | .mem (.long a) => some (0x2F, .andLong a)
  | .mem (.dpIndY d) => some (0x31, .andDpIndY d)
  | .mem (.dpInd d) => some (0x32, .andDpInd d)
  | .mem (.srIndY d) => some (0x33, .andSrIndY d)
  | .mem (.dpX d) => some (0x35, .andDpX d)
  | .mem (.dpIndLongY d) => some (0x37, .andDpIndLongY d)
  | .mem (.absY o) => some (0x39, .andAbsY o)
  | .mem (.absX o) => some (0x3D, .andAbsX o)
  | .mem (.longX a) => some (0x3F, .andLongX a)
  | _ => none

/-- The forms of ORA (R211). -/
def oraForms : Operand → Option (Byte × Instr)
  | .mem (.dpXInd d) => some (0x01, .oraDpXInd d)
  | .mem (.sr d) => some (0x03, .oraSr d)
  | .mem (.dp d) => some (0x05, .oraDp d)
  | .mem (.dpIndLong d) => some (0x07, .oraDpIndLong d)
  | .imm v => some (0x09, .oraImm v)
  | .mem (.abs o) => some (0x0D, .oraAbs o)
  | .mem (.long a) => some (0x0F, .oraLong a)
  | .mem (.dpIndY d) => some (0x11, .oraDpIndY d)
  | .mem (.dpInd d) => some (0x12, .oraDpInd d)
  | .mem (.srIndY d) => some (0x13, .oraSrIndY d)
  | .mem (.dpX d) => some (0x15, .oraDpX d)
  | .mem (.dpIndLongY d) => some (0x17, .oraDpIndLongY d)
  | .mem (.absY o) => some (0x19, .oraAbsY o)
  | .mem (.absX o) => some (0x1D, .oraAbsX o)
  | .mem (.longX a) => some (0x1F, .oraLongX a)
  | _ => none

/-- The forms of EOR (R212). -/
def eorForms : Operand → Option (Byte × Instr)
  | .mem (.dpXInd d) => some (0x41, .eorDpXInd d)
  | .mem (.sr d) => some (0x43, .eorSr d)
  | .mem (.dp d) => some (0x45, .eorDp d)
  | .mem (.dpIndLong d) => some (0x47, .eorDpIndLong d)
  | .imm v => some (0x49, .eorImm v)
  | .mem (.abs o) => some (0x4D, .eorAbs o)
  | .mem (.long a) => some (0x4F, .eorLong a)
  | .mem (.dpIndY d) => some (0x51, .eorDpIndY d)
  | .mem (.dpInd d) => some (0x52, .eorDpInd d)
  | .mem (.srIndY d) => some (0x53, .eorSrIndY d)
  | .mem (.dpX d) => some (0x55, .eorDpX d)
  | .mem (.dpIndLongY d) => some (0x57, .eorDpIndLongY d)
  | .mem (.absY o) => some (0x59, .eorAbsY o)
  | .mem (.absX o) => some (0x5D, .eorAbsX o)
  | .mem (.longX a) => some (0x5F, .eorLongX a)
  | _ => none

/-- The forms of BIT (R213). -/
def bitForms : Operand → Option (Byte × Instr)
  | .mem (.dp d) => some (0x24, .bitDp d)
  | .mem (.abs o) => some (0x2C, .bitAbs o)
  | .mem (.dpX d) => some (0x34, .bitDpX d)
  | .mem (.absX o) => some (0x3C, .bitAbsX o)
  | .imm v => some (0x89, .bitImm v)
  | _ => none

/-- The forms of STA (R143). -/
def staForms : MemMode → Option (Byte × Instr)
  | .dpXInd d => some (0x81, .staDpXInd d)
  | .sr d => some (0x83, .staSr d)
  | .dp d => some (0x85, .staDp d)
  | .dpIndLong d => some (0x87, .staDpIndLong d)
  | .abs o => some (0x8D, .staAbs o)
  | .long a => some (0x8F, .staLong a)
  | .dpIndY d => some (0x91, .staDpIndY d)
  | .dpInd d => some (0x92, .staDpInd d)
  | .srIndY d => some (0x93, .staSrIndY d)
  | .dpX d => some (0x95, .staDpX d)
  | .dpIndLongY d => some (0x97, .staDpIndLongY d)
  | .absY o => some (0x99, .staAbsY o)
  | .absX o => some (0x9D, .staAbsX o)
  | .longX a => some (0x9F, .staLongX a)
  | _ => none

/-- The forms of STX (R144). -/
def stxForms : MemMode → Option (Byte × Instr)
  | .dp d => some (0x86, .stxDp d)
  | .abs o => some (0x8E, .stxAbs o)
  | .dpY d => some (0x96, .stxDpY d)
  | _ => none

/-- The forms of STY (R145). -/
def styForms : MemMode → Option (Byte × Instr)
  | .dp d => some (0x84, .styDp d)
  | .abs o => some (0x8C, .styAbs o)
  | .dpX d => some (0x94, .styDpX d)
  | _ => none

/-- The forms of STZ (R146). -/
def stzForms : MemMode → Option (Byte × Instr)
  | .dp d => some (0x64, .stzDp d)
  | .dpX d => some (0x74, .stzDpX d)
  | .abs o => some (0x9C, .stzAbs o)
  | .absX o => some (0x9E, .stzAbsX o)
  | _ => none

/-- The forms of INC (R190). -/
def incForms : RmwOperand → Option (Byte × Instr)
  | .acc => some (0x1A, .incA)
  | .mem (.dp d) => some (0xE6, .incDp d)
  | .mem (.abs o) => some (0xEE, .incAbs o)
  | .mem (.dpX d) => some (0xF6, .incDpX d)
  | .mem (.absX o) => some (0xFE, .incAbsX o)
  | _ => none

/-- The forms of DEC (R191). -/
def decForms : RmwOperand → Option (Byte × Instr)
  | .acc => some (0x3A, .decA)
  | .mem (.dp d) => some (0xC6, .decDp d)
  | .mem (.abs o) => some (0xCE, .decAbs o)
  | .mem (.dpX d) => some (0xD6, .decDpX d)
  | .mem (.absX o) => some (0xDE, .decAbsX o)
  | _ => none

/-- The forms of TSB (R214). -/
def tsbForms : RmwOperand → Option (Byte × Instr)
  | .mem (.dp d) => some (0x04, .tsbDp d)
  | .mem (.abs o) => some (0x0C, .tsbAbs o)
  | _ => none

/-- The forms of TRB (R215). -/
def trbForms : RmwOperand → Option (Byte × Instr)
  | .mem (.dp d) => some (0x14, .trbDp d)
  | .mem (.abs o) => some (0x1C, .trbAbs o)
  | _ => none

/-- The forms of ASL (R216). -/
def aslForms : RmwOperand → Option (Byte × Instr)
  | .mem (.dp d) => some (0x06, .aslDp d)
  | .acc => some (0x0A, .aslA)
  | .mem (.abs o) => some (0x0E, .aslAbs o)
  | .mem (.dpX d) => some (0x16, .aslDpX d)
  | .mem (.absX o) => some (0x1E, .aslAbsX o)
  | _ => none

/-- The forms of LSR (R217). -/
def lsrForms : RmwOperand → Option (Byte × Instr)
  | .mem (.dp d) => some (0x46, .lsrDp d)
  | .acc => some (0x4A, .lsrA)
  | .mem (.abs o) => some (0x4E, .lsrAbs o)
  | .mem (.dpX d) => some (0x56, .lsrDpX d)
  | .mem (.absX o) => some (0x5E, .lsrAbsX o)
  | _ => none

/-- The forms of ROL (R218). -/
def rolForms : RmwOperand → Option (Byte × Instr)
  | .mem (.dp d) => some (0x26, .rolDp d)
  | .acc => some (0x2A, .rolA)
  | .mem (.abs o) => some (0x2E, .rolAbs o)
  | .mem (.dpX d) => some (0x36, .rolDpX d)
  | .mem (.absX o) => some (0x3E, .rolAbsX o)
  | _ => none

/-- The forms of ROR (R219). -/
def rorForms : RmwOperand → Option (Byte × Instr)
  | .mem (.dp d) => some (0x66, .rorDp d)
  | .acc => some (0x6A, .rorA)
  | .mem (.abs o) => some (0x6E, .rorAbs o)
  | .mem (.dpX d) => some (0x76, .rorDpX d)
  | .mem (.absX o) => some (0x7E, .rorAbsX o)
  | _ => none

/-- The 92 mnemonics of the opcode table. -/
inductive Mnem where
  | adc | and | asl | bcc | bcs | beq | bit | bmi | bne | bpl | bra | brk
  | brl | bvc | bvs | clc | cld | cli | clv | cmp | cop | cpx | cpy | dec
  | dex | dey | eor | inc | inx | iny | jml | jmp | jsl | jsr | lda | ldx
  | ldy | lsr | mvn | mvp | nop | ora | pea | pei | per | pha | phb | phd
  | phk | php | phx | phy | pla | plb | pld | plp | plx | ply | rep | rol
  | ror | rti | rtl | rts | sbc | sec | sed | sei | sep | sta | stp | stx
  | sty | stz | tax | tay | tcd | tcs | tdc | trb | tsb | tsc | tsx | txa
  | txs | txy | tya | tyx | wai | wdm | xba | xce
  deriving DecidableEq

/-- The mnemonic of an instruction (R130). -/
def mnem : Instr → Mnem
  | .adcDpXInd _ | .adcSr _ | .adcDp _ | .adcDpIndLong _ | .adcImm _ | .adcAbs _ | .adcLong _ | .adcDpIndY _
    | .adcDpInd _ | .adcSrIndY _ | .adcDpX _ | .adcDpIndLongY _ | .adcAbsY _ | .adcAbsX _ | .adcLongX _ => .adc
  | .andDpXInd _ | .andSr _ | .andDp _ | .andDpIndLong _ | .andImm _ | .andAbs _ | .andLong _ | .andDpIndY _
    | .andDpInd _ | .andSrIndY _ | .andDpX _ | .andDpIndLongY _ | .andAbsY _ | .andAbsX _ | .andLongX _ => .and
  | .aslDp _ | .aslA | .aslAbs _ | .aslDpX _ | .aslAbsX _ => .asl
  | .bcc _ => .bcc
  | .bcs _ => .bcs
  | .beq _ => .beq
  | .bitDp _ | .bitAbs _ | .bitDpX _ | .bitAbsX _ | .bitImm _ => .bit
  | .bmi _ => .bmi
  | .bne _ => .bne
  | .bpl _ => .bpl
  | .bra _ => .bra
  | .brk _ => .brk
  | .brl _ => .brl
  | .bvc _ => .bvc
  | .bvs _ => .bvs
  | .clc => .clc
  | .cld => .cld
  | .cli => .cli
  | .clv => .clv
  | .cmpDpXInd _ | .cmpSr _ | .cmpDp _ | .cmpDpIndLong _ | .cmpImm _ | .cmpAbs _ | .cmpLong _ | .cmpDpIndY _
    | .cmpDpInd _ | .cmpSrIndY _ | .cmpDpX _ | .cmpDpIndLongY _ | .cmpAbsY _ | .cmpAbsX _ | .cmpLongX _ => .cmp
  | .cop _ => .cop
  | .cpxImm _ | .cpxDp _ | .cpxAbs _ => .cpx
  | .cpyImm _ | .cpyDp _ | .cpyAbs _ => .cpy
  | .decA | .decDp _ | .decAbs _ | .decDpX _ | .decAbsX _ => .dec
  | .dex => .dex
  | .dey => .dey
  | .eorDpXInd _ | .eorSr _ | .eorDp _ | .eorDpIndLong _ | .eorImm _ | .eorAbs _ | .eorLong _ | .eorDpIndY _
    | .eorDpInd _ | .eorSrIndY _ | .eorDpX _ | .eorDpIndLongY _ | .eorAbsY _ | .eorAbsX _ | .eorLongX _ => .eor
  | .incA | .incDp _ | .incAbs _ | .incDpX _ | .incAbsX _ => .inc
  | .inx => .inx
  | .iny => .iny
  | .jmlLong _ | .jmlInd _ => .jml
  | .jmpAbs _ | .jmpInd _ | .jmpIndX _ => .jmp
  | .jsl _ => .jsl
  | .jsrAbs _ | .jsrIndX _ => .jsr
  | .ldaDpXInd _ | .ldaSr _ | .ldaDp _ | .ldaDpIndLong _ | .ldaImm _ | .ldaAbs _ | .ldaLong _ | .ldaDpIndY _
    | .ldaDpInd _ | .ldaSrIndY _ | .ldaDpX _ | .ldaDpIndLongY _ | .ldaAbsY _ | .ldaAbsX _ | .ldaLongX _ => .lda
  | .ldxImm _ | .ldxDp _ | .ldxAbs _ | .ldxDpY _ | .ldxAbsY _ => .ldx
  | .ldyImm _ | .ldyDp _ | .ldyAbs _ | .ldyDpX _ | .ldyAbsX _ => .ldy
  | .lsrDp _ | .lsrA | .lsrAbs _ | .lsrDpX _ | .lsrAbsX _ => .lsr
  | .mvn _ _ => .mvn
  | .mvp _ _ => .mvp
  | .nop => .nop
  | .oraDpXInd _ | .oraSr _ | .oraDp _ | .oraDpIndLong _ | .oraImm _ | .oraAbs _ | .oraLong _ | .oraDpIndY _
    | .oraDpInd _ | .oraSrIndY _ | .oraDpX _ | .oraDpIndLongY _ | .oraAbsY _ | .oraAbsX _ | .oraLongX _ => .ora
  | .pea _ => .pea
  | .pei _ => .pei
  | .per _ => .per
  | .pha => .pha
  | .phb => .phb
  | .phd => .phd
  | .phk => .phk
  | .php => .php
  | .phx => .phx
  | .phy => .phy
  | .pla => .pla
  | .plb => .plb
  | .pld => .pld
  | .plp => .plp
  | .plx => .plx
  | .ply => .ply
  | .rep _ => .rep
  | .rolDp _ | .rolA | .rolAbs _ | .rolDpX _ | .rolAbsX _ => .rol
  | .rorDp _ | .rorA | .rorAbs _ | .rorDpX _ | .rorAbsX _ => .ror
  | .rti => .rti
  | .rtl => .rtl
  | .rts => .rts
  | .sbcDpXInd _ | .sbcSr _ | .sbcDp _ | .sbcDpIndLong _ | .sbcImm _ | .sbcAbs _ | .sbcLong _ | .sbcDpIndY _
    | .sbcDpInd _ | .sbcSrIndY _ | .sbcDpX _ | .sbcDpIndLongY _ | .sbcAbsY _ | .sbcAbsX _ | .sbcLongX _ => .sbc
  | .sec => .sec
  | .sed => .sed
  | .sei => .sei
  | .sep _ => .sep
  | .staDpXInd _ | .staSr _ | .staDp _ | .staDpIndLong _ | .staAbs _ | .staLong _ | .staDpIndY _ | .staDpInd _
    | .staSrIndY _ | .staDpX _ | .staDpIndLongY _ | .staAbsY _ | .staAbsX _ | .staLongX _ => .sta
  | .stp => .stp
  | .stxDp _ | .stxAbs _ | .stxDpY _ => .stx
  | .styDp _ | .styAbs _ | .styDpX _ => .sty
  | .stzDp _ | .stzDpX _ | .stzAbs _ | .stzAbsX _ => .stz
  | .tax => .tax
  | .tay => .tay
  | .tcd => .tcd
  | .tcs => .tcs
  | .tdc => .tdc
  | .trbDp _ | .trbAbs _ => .trb
  | .tsbDp _ | .tsbAbs _ => .tsb
  | .tsc => .tsc
  | .tsx => .tsx
  | .txa => .txa
  | .txs => .txs
  | .txy => .txy
  | .tya => .tya
  | .tyx => .tyx
  | .wai => .wai
  | .wdm _ => .wdm
  | .xba => .xba
  | .xce => .xce

/-! Shapes of statements about an instruction. -/

/-- What `Load(w)` gives. An immediate of the width gives its value and leaves the Bus alone (R100); one of the other width, which
no fetch delivers, leaves the Bus alone too, and its value is not stated. A memory operand gives `MemRead(EA, w/8)`, read after
the pointer reads of the effective address, and the Bus after it (R61; the effective addresses are EffectiveAddresses). -/
def IsLoad (w : Width) (c : Cpu) (b : Bus) (r : Word × Bus) : Operand → Prop
  | .imm v =>
    r.2 = b ∧
      match v, w with
      | .b8 v, .w8 => r.1.toNat = v.toNat
      | .b16 v, .w16 => r.1.toNat = v.toNat
      | .b8 _, .w16 => True
      | .b16 _, .w8 => True
  | .mem m =>
    let ea := m.ea c b
    (r.1.toNat, r.2) = leRead (bytesOf w) (ea.1.toNat / 65536) (ea.1.toNat % 65536) ea.2

/-- Every form encodes as its opcode byte and operand bytes, and runs thus: one operand of width `w` is loaded (`IsLoad`), the
registers change by `post` and nothing else does. -/
def LoadsOperand (forms : Operand → Option (Byte × Instr)) (w : Cpu → Width)
    (post : Operand → Width → Nat → Cpu → Cpu) : Prop :=
  ∀ o op i s, forms o = some (op, i) →
    encode i = op :: operandBytes o ∧
    exec i s = .next
      { s with
        cpu := post o (w s.cpu) (o.load (w s.cpu) s.cpu s.bus).1.toNat s.cpu
        bus := (o.load (w s.cpu) s.cpu s.bus).2 } ∧
    IsLoad (w s.cpu) s.cpu s.bus (o.load (w s.cpu) s.cpu s.bus) o ∧
    SameBytes s.bus (o.load (w s.cpu) s.cpu s.bus).2

/-- Every form encodes as its opcode byte and operand bytes, and runs thus: `value` is stored at the effective address in
width `w`; no register changes, and no cell but the stored ones. -/
def StoresValue (forms : MemMode → Option (Byte × Instr)) (w : Cpu → Width) (value : Width → Cpu → Nat) : Prop :=
  ∀ m op i s, forms m = some (op, i) →
    encode i = op :: modeBytes m ∧
    exec i s = .next
      { s with bus := storeAt (w s.cpu) (m.ea s.cpu s.bus).1 (value (w s.cpu) s.cpu) (m.ea s.cpu s.bus).2 } ∧
    OnlyCells (accessed (bytesOf (w s.cpu)) (m.ea s.cpu s.bus).1) s.bus
      (storeAt (w s.cpu) (m.ea s.cpu s.bus).1 (value (w s.cpu) s.cpu) (m.ea s.cpu s.bus).2)

/-- The state after a read-modify-write at width `mw`: result `f`, flags `g`, both from the registers before and the value read.
The accumulator form touches no memory; the memory form reads once and writes once (R64, R116). -/
def afterRmw (f : Width → Cpu → Nat → Nat) (g : Width → Cpu → Nat → FlagWrites) (s : State) : RmwOperand → State
  | .acc =>
    let v := low s.cpu.mw s.cpu.a
    { s with
      cpu :=
        { s.cpu with
          a := intoAcc s.cpu.mw s.cpu.a (f s.cpu.mw s.cpu v)
          p := status s.cpu.p (g s.cpu.mw s.cpu v) } }
  | .mem m =>
    let ea := m.ea s.cpu s.bus
    let v := leRead (bytesOf s.cpu.mw) (ea.1.toNat / 65536) (ea.1.toNat % 65536) ea.2
    { s with
      cpu := { s.cpu with p := status s.cpu.p (g s.cpu.mw s.cpu v.1) }
      bus := storeAt s.cpu.mw ea.1 (f s.cpu.mw s.cpu v.1) v.2 }

/-- The addresses that a read-modify-write operand stores to. -/
def rmwStored (s : State) : RmwOperand → List Addr
  | .acc => []
  | .mem m => accessed (bytesOf s.cpu.mw) (m.ea s.cpu s.bus).1

/-- Every form encodes as its opcode byte and operand bytes and runs as `afterRmw` says; no cell changes but the stored ones. -/
def ModifiesOperand (forms : RmwOperand → Option (Byte × Instr)) (f : Width → Cpu → Nat → Nat)
    (g : Width → Cpu → Nat → FlagWrites) : Prop :=
  ∀ o op i s, forms o = some (op, i) →
    encode i = op :: rmwBytes o ∧
    exec i s = .next (afterRmw f g s o) ∧
    OnlyCells (rmwStored s o) s.bus (afterRmw f g s o).bus

/-- A one-byte instruction that changes the registers by `post` and nothing else: no memory access at all. -/
def ChangesRegisters (i : Instr) (op : Byte) (post : Cpu → Cpu) : Prop :=
  encode i = [op] ∧ ∀ s, exec i s = .next { s with cpu := post s.cpu }

/-- A branch: opcode and displacement byte; `PC` is the target when the condition on `P` holds; nothing else changes (R240). -/
def BranchesIf (mk : Byte → Instr) (op : Byte) (cond : Byte → Bool) : Prop :=
  ∀ r s, encode (mk r) = [op, r] ∧
    exec (mk r) s = .next
      { s with
        cpu :=
          { s.cpu with
            pc := if cond s.cpu.p then BitVec.ofInt 16 ((s.cpu.pc.toNat : Int) + r.toInt) else s.cpu.pc } }

/-- An instruction that pushes bytes taken from the registers and changes nothing else but `S`: no cell but the stack's. -/
def PushesBytes (i : Instr) (bytes : Cpu → List Byte) : Prop :=
  ∀ s, exec i s = .next (afterPushes (bytes s.cpu) id s) ∧
    OnlyCells (pushAddrs s.cpu.e (bytes s.cpu).length s.cpu.s) s.bus (afterPushes (bytes s.cpu) id s).bus

/-- A one-byte instruction that pulls `n` bytes and changes the registers by `post`; no cell changes. -/
def PullsBytes (i : Instr) (op : Byte) (n : Cpu → Nat) (post : Nat → Cpu → Cpu) : Prop :=
  encode i = [op] ∧
    ∀ s, exec i s = .next (afterPulls (n s.cpu) post s) ∧ SameBytes s.bus (afterPulls (n s.cpu) post s).bus

/-- The bytes that interrupt entry pushes, in push order (R356): PB in native mode, PC, the status image. -/
def entryBytes (image : Byte) (c : Cpu) : List Byte :=
  (if c.e then [] else [c.pb]) ++ pushWord c.pc.toNat ++ [image]

/-- The state after interrupt entry through a vector with a status image (R356). -/
def entered (vector : Nat) (image : Byte) (s : State) : State :=
  let r := pushes s.cpu.e (entryBytes image s.cpu) (s.cpu.s, s.bus)
  let v := leRead 2 0 vector r.2
  { s with
    cpu :=
      { s.cpu with
        s := r.1
        p := status s.cpu.p { i := some true, d := some false }
        pb := 0x00
        pc := BitVec.ofNat 16 v.1 }
    bus := v.2 }

/-- The status image of BRK and COP (R357). -/
def softImage (c : Cpu) : Byte := if c.e then BitVec.ofNat 8 (c.p.toNat ||| 0x10) else c.p

/-- The status image of NMI and IRQ (R357). -/
def hardImage (c : Cpu) : Byte := if c.e then BitVec.ofNat 8 (c.p.toNat &&& 0xEF) else c.p

/-- The addresses that interrupt entry pushes to. -/
def entryAddrs (c : Cpu) : List Addr := pushAddrs c.e (if c.e then 3 else 4) c.s

/-- No event lands at this boundary. -/
def Quiet (s : State) : Prop := s.env.headD [] = []

/-- The state at this boundary after the environment's turn, when no event lands. -/
def polled (s : State) : State := { s with env := s.env.tail }

/-- A step's budget is set to a cost the spec does not give (R39, R420; a free value, log 6). -/
def charged (t : State) : State :=
  { t with cpu := { t.cpu with budget := Config.stepCost t.costDraws }, costDraws := t.costDraws + 1 }

/-- Nothing at this boundary comes before an instruction (R353). -/
def InstructionRuns (s : State) : Prop :=
  Quiet s ∧ s.resetReq = none ∧ s.cpu.run = .running ∧ s.cpu.nmiReq = false ∧
    (s.irqLine = false ∨ bitOf s.cpu.p 2 = true)

/-- The state with the bytes of an `n`-byte instruction fetched from `PB:PC` (R90, R91). -/
def fetched (n : Nat) (s : State) : State :=
  { s with
    cpu := { s.cpu with pc := BitVec.ofNat 16 (s.cpu.pc.toNat + n) }
    bus := (readSeq n s.cpu.pb.toNat s.cpu.pc.toNat s.bus).2 }

/-- `n` calls of `clock()`, stopping where one does not answer a next state. -/
def clocks : Nat → State → Host.Outcome State Fault Refusal
  | 0, s => .next s
  | n + 1, s =>
    match clock s with
    | .next t => clocks n t
    | .fault r => .fault r
    | .refused r => .refused r

/-- The value of decimal digits, two or four of them, lowest in the low nibble. -/
def bcdValue : Nat → Nat → Nat
  | 0, _ => 0
  | n + 1, v => v % 16 + 10 * bcdValue n (v / 16)

/-- The lowest `n` nibbles are decimal digits. -/
def isBcd : Nat → Nat → Bool
  | 0, _ => true
  | n + 1, v => decide (v % 16 ≤ 9) && isBcd n (v / 16)

/-- The number of decimal digits of a width. -/
def digitsOf : Width → Nat
  | .w8 => 2
  | .w16 => 4

/-- `(~(x ^ y) & (x ^ r))[3]` for one nibble and its uncorrected sum. -/
def nibbleV (x y r : Nat) : Bool := x / 8 % 2 == y / 8 % 2 && x / 8 % 2 != r / 8 % 2

/-- Decimal addition of `n` nibbles from the lowest (R182): the result, the carry and V. A digit sum above 9 is corrected by 6. -/
def addNibbles : Nat → Nat → Nat → Bool → Nat × Bool × Bool
  | 0, _, _, c => (0, c, false)
  | n + 1, a, b, c =>
    let sum := a % 16 + b % 16 + c.toNat
    let fixed := if 9 < sum then sum + 6 else sum
    let rest := addNibbles n (a / 16) (b / 16) (decide (15 < fixed))
    (fixed % 16 + 16 * rest.1, rest.2.1, if n = 0 then nibbleV (a % 16) (b % 16) sum else rest.2.2)

/-- Decimal subtraction of `n` nibbles from the lowest (R183), each digit of `b` complemented: a digit sum that gives no carry is
corrected by 6 downward. -/
def subNibbles : Nat → Nat → Nat → Bool → Nat × Bool × Bool
  | 0, _, _, c => (0, c, false)
  | n + 1, a, b, c =>
    let sum := a % 16 + (15 - b % 16) + c.toNat
    let fixed := if sum ≤ 15 then sum + 16 - 6 else sum
    let rest := subNibbles n (a / 16) (b / 16) (decide (15 < sum))
    (fixed % 16 + 16 * rest.1, rest.2.1, if n = 0 then nibbleV (a % 16) (15 - b % 16) sum else rest.2.2)

/-- A number read as two's complement at a width. -/
def signed (w : Width) (v : Nat) : Int := if isNeg w v then (v : Int) - 2 ^ w.bits else v

/-- `n` reads of one address: the bytes in order and the Bus after. -/
def rereads : Nat → Addr → Bus → List Byte × Bus
  | 0, _, b => ([], b)
  | n + 1, a, b =>
    let r := b.read a
    let rest := rereads n a r.2
    (r.1 :: rest.1, rest.2)

/-- The copies of a block move (R340, R341): `n` single-byte copies, copy `j` from `src j` to `dst j`. -/
def copies (src dst : Nat → Addr) (n : Nat) (b : Bus) : Bus :=
  (List.range n).foldl (fun b j => (b.read (src j)).2.write (dst j) (b.read (src j)).1) b

/-- The offset `j` steps on (or back) from `r` modulo `2^xw` (R340, R341). -/
def stepped (up : Bool) (w : Width) (r : Word) (j : Nat) : Nat :=
  if up then (r.toNat + j) % 2 ^ w.bits else (r.toNat + 65536 * 65536 - j) % 2 ^ w.bits

/-- A block move in one direction (R340, R341): opcode, destination bank, source bank; `A + 1` copies in one step. -/
def MovesBlock (mk : Byte → Byte → Instr) (op : Byte) (up : Bool) : Prop :=
  ∀ dst src s, s.cpu.Inv →
    encode (mk dst src) = [op, dst, src] ∧
    exec (mk dst src) s = .next
      { s with
        cpu :=
          { s.cpu with
            a := 0xFFFF
            x := BitVec.ofNat 16 (stepped up s.cpu.xw s.cpu.x (s.cpu.a.toNat + 1))
            y := BitVec.ofNat 16 (stepped up s.cpu.xw s.cpu.y (s.cpu.a.toNat + 1))
            db := dst }
        bus := copies (fun j => byteAddr src.toNat (stepped up s.cpu.xw s.cpu.x j))
          (fun j => byteAddr dst.toNat (stepped up s.cpu.xw s.cpu.y j)) (s.cpu.a.toNat + 1) s.bus } ∧
    OnlyCells ((List.range (s.cpu.a.toNat + 1)).map fun j => byteAddr dst.toNat (stepped up s.cpu.xw s.cpu.y j)) s.bus
      (copies (fun j => byteAddr src.toNat (stepped up s.cpu.xw s.cpu.x j))
        (fun j => byteAddr dst.toNat (stepped up s.cpu.xw s.cpu.y j)) (s.cpu.a.toNat + 1) s.bus)

/-- The mnemonics that may change a flag (R28). -/
def writersOf : Flag → List Mnem
  | .c => [.adc, .sbc, .cmp, .cpx, .cpy, .asl, .lsr, .rol, .ror, .clc, .sec, .xce, .rep, .sep, .plp, .rti]
  | .z =>
    [.lda, .ldx, .ldy, .pla, .plx, .ply, .plb, .pld, .tax, .tay, .txa, .tya, .txy, .tyx, .tsx, .tcd, .tdc, .tsc, .adc, .sbc,
      .and, .ora, .eor, .asl, .lsr, .rol, .ror, .cmp, .cpx, .cpy, .inc, .dec, .inx, .iny, .dex, .dey, .bit, .tsb, .trb, .xba,
      .rep, .sep, .plp, .rti]
  | .n =>
    [.lda, .ldx, .ldy, .pla, .plx, .ply, .plb, .pld, .tax, .tay, .txa, .tya, .txy, .tyx, .tsx, .tcd, .tdc, .tsc, .adc, .sbc,
      .and, .ora, .eor, .asl, .lsr, .rol, .ror, .cmp, .cpx, .cpy, .inc, .dec, .inx, .iny, .dex, .dey, .bit, .xba, .rep, .sep,
      .plp, .rti]
  | .v => [.adc, .sbc, .bit, .clv, .rep, .sep, .plp, .rti]
  | .d => [.cld, .sed, .rep, .sep, .plp, .rti, .brk, .cop]
  | .i => [.cli, .sei, .rep, .sep, .plp, .rti, .brk, .cop]
  | .x => [.rep, .sep, .plp, .rti, .xce]
  | .m => [.rep, .sep, .plp, .rti, .xce]

/-- R28 lists the flag for the instruction: by its mnemonic, but N and V not for BIT immediate. -/
def MayWriteFlag (f : Flag) (i : Instr) : Prop := mnem i ∈ writersOf f ∧ ((∃ v, i = .bitImm v) → f ≠ .n ∧ f ≠ .v)

/-- The mnemonics that store: to an operand, to the stack, or in a block move. -/
def storers : List Mnem :=
  [.sta, .stx, .sty, .stz, .inc, .dec, .asl, .lsr, .rol, .ror, .tsb, .trb, .pha, .php, .phx, .phy, .phb, .phd, .phk, .pea, .pei,
    .per, .jsr, .jsl, .brk, .cop, .mvn, .mvp]

/-- The instruction stores: its mnemonic is one that does, and it is not the accumulator form of one (R116). -/
def MayStore (i : Instr) : Prop := mnem i ∈ storers ∧ i ∉ [.incA, .decA, .aslA, .lsrA, .rolA, .rorA]

/-- A write of a transfer: one to `$420B` starts no other transfer, its unit is only told (the model's choice, log 9). -/
def transferWrite (b : Bus) (a : Addr) (v : Byte) : Bus :=
  if isGdmaTrigger b.params a then { b with unitLog := .write a v :: b.unitLog } else b.write a v

/-- The accesses of a transfer carried out one after the other. -/
def carriedOut : List BusAccess → Bus → Bus
  | [], b => b
  | .read a :: rest, b => carriedOut rest (b.read a).2
  | .write a v :: rest, b => carriedOut rest (transferWrite b a v)
  | .copy src dst :: rest, b => carriedOut rest (transferWrite (b.read src).2 dst (b.read src).1)

/-- The region is for the address: its bank and its offset lie in the region's. -/
def Covers (r : Region) (a : Addr) : Prop :=
  r.bankLo ≤ a.toNat / 65536 ∧ a.toNat / 65536 ≤ r.bankHi ∧ r.offLo ≤ a.toNat % 65536 ∧ a.toNat % 65536 ≤ r.offHi

/-- What an address of a region is answered by: the region's target, whose cell, if it names one, lies as far from the region's home
as the address from the region's first one, in the 24-bit space of homes. -/
def regionAnswer (r : Region) (a : Addr) : Target :=
  let home := fun k => (k + ((a.toNat / 65536 - r.bankLo) * r.stride + (a.toNat % 65536 - r.offLo))) % 16777216
  match r.target with
  | .wram k => .wram (home k)
  | .sram k => .sram (home k)
  | .rom k => .rom (home k)
  | t => t

end Sys2Proof.Claims

open Sys2Proof Sys2Proof.Machine Sys2Proof.Claims

/-! Encoding. -/

/-- R91 to R97: the bytes of a well-formed instruction decode to it, with every operand, and nothing after them is consumed. -/
def Obligations.EncodingRoundTrip : Prop :=
  ∀ (m8 x8 : Bool) (i : Instr) (rest : List Byte), i.wf m8 x8 = true → decode m8 x8 (encode i ++ rest) = .ok (i, rest)

/-- R97, R132: every opcode byte with enough bytes after it decodes, to a well-formed instruction whose encoding is exactly the
bytes consumed. So no opcode is undefined and no two encodings stand for one instruction. -/
def Obligations.EveryOpcodeDecodes : Prop :=
  (∀ (m8 x8 : Bool) (op b0 b1 b2 : Byte) (rest : List Byte), ∃ r, decode m8 x8 (op :: b0 :: b1 :: b2 :: rest) = .ok r) ∧
  ∀ (m8 x8 : Bool) (bytes : List Byte) (i : Instr) (rest : List Byte), decode m8 x8 bytes = .ok (i, rest) →
    encode i ++ rest = bytes ∧ i.wf m8 x8 = true

/-- Words that the spec's examples write out, one or two of each family. -/
def Obligations.DecodesSpecWords : Prop :=
  decode true true [0xA9, 0x80] = .ok (.ldaImm (.b8 0x80), []) ∧
  decode false true [0x8D, 0x10, 0x00] = .ok (.staAbs 0x0010, []) ∧
  decode true true [0xEB] = .ok (.xba, []) ∧
  decode true true [0xE9, 0xF0] = .ok (.sbcImm (.b8 0xF0), []) ∧
  decode true false [0xE0, 0x00, 0x10] = .ok (.cpxImm (.b16 0x1000), []) ∧
  decode false false [0x09, 0x01, 0x80] = .ok (.oraImm (.b16 0x8001), []) ∧
  decode true true [0x5C, 0x56, 0x34, 0x12] = .ok (.jmlLong 0x123456, []) ∧
  decode true true [0x82, 0xFD, 0xFF] = .ok (.brl 0xFFFD, []) ∧
  decode true true [0xD4, 0x10] = .ok (.pei 0x10, []) ∧
  decode true true [0xC2, 0x30] = .ok (.rep 0x30, []) ∧
  decode true true [0x42, 0xFF] = .ok (.wdm 0xFF, []) ∧
  decode true true [0x54, 0x7F, 0x7E] = .ok (.mvn 0x7F 0x7E, [])

/-! The step. -/

/-- R90: when the bytes that the Bus answers at `PB:PC` are the encoding of a well-formed instruction, and nothing at this
boundary comes before an instruction, the step is that instruction's meaning with `PC` past its bytes, and its cost is charged. -/
def Obligations.StepRunsInstructionAtPC : Prop :=
  ∀ (s : State) (i : Instr), InstructionRuns s → i.wf s.cpu.m8 s.cpu.x8 = true →
    (readSeq (encode i).length s.cpu.pb.toNat s.cpu.pc.toNat s.bus).1 = encode i →
    ∃ t, exec i (fetched (encode i).length (polled s)) = .next t ∧ step s = .next (charged t)

/-- R363: no instruction faults and no step stops, in any state. -/
def Obligations.StepNeverStops : Prop :=
  (∀ (i : Instr) (s : State), ∃ t, exec i s = .next t) ∧ ∀ s : State, ∃ t, step s = .next t

/-- R32 items 1 and 2 (item 3 is HiddenAccumulatorByte): every step keeps the invariant (index high bytes zero under `x8`, the stack in page `$01` in emulation
mode, the memory in canonical form). -/
def Obligations.StepKeepsInvariant : Prop :=
  ∀ s t : State, s.Inv → step s = .next t → t.Inv

/-- The reset state meets the invariant, and its registers are what a reset step leaves with all low bytes zero and a zero
reset vector. The zero low bytes are the model's choice (log 3), as are the zero vector bytes (log 2). -/
def Obligations.ResetStateIsWhatResetLeaves : Prop :=
  State.reset.Inv ∧
  ∃ t, step { State.reset with resetReq := some { aLow := 0x00, xLow := 0x00, yLow := 0x00 } } = .next t ∧
    t.cpu = State.reset.cpu ∧ t.bus.mem = State.reset.bus.mem

/-- R45, R400, R401: what a reset leaves, in any run state; it pushes and writes nothing and reads the two vector bytes. R400 lists
the CPU's values only: that the NMI flag, the mailbox, the controller, the multiply and divide registers, the inputs and the
environment keep theirs is the model's choice (log 8), as is that `$4200` is then a free value, left open here. -/
def Obligations.ResetStepLeavesResetValues : Prop :=
  ∀ (s : State) (lows : ResetLows), Quiet s → s.resetReq = some lows →
    ∃ nmitimen unitLog,
      step s = .next
        { polled s with
          cpu :=
            { e := true, p := 0x34, a := BitVec.ofNat 16 lows.aLow.toNat, x := BitVec.ofNat 16 lows.xLow.toNat,
              y := BitVec.ofNat 16 lows.yLow.toNat, s := 0x01FF, d := 0x0000, db := 0x00, pb := 0x00, run := .running,
              nmiReq := false, budget := 0,
              pc := if (leRead 2 0 0xFFFC s.bus).1 = 0 then 0x8000 else BitVec.ofNat 16 (leRead 2 0 0xFFFC s.bus).1 }
          resetReq := none
          bus := { (leRead 2 0 0xFFFC s.bus).2 with nmitimen := nmitimen, unitLog := unitLog } } ∧
      SameBytes s.bus (leRead 2 0 0xFFFC s.bus).2

/-- R351, R352, R353, R359: with no reset asked for and the CPU not stopped, a latched NMI is taken; with none, an asserted IRQ
is taken if `P.I` is clear. Each is taken before the next instruction, ends a wait, and enters through its vector. -/
def Obligations.HardwareInterruptEntry : Prop :=
  ∀ s : State, Quiet s → s.resetReq = none → s.cpu.run ≠ .stopped →
    (s.cpu.nmiReq = true →
      step s = .next (charged
        (let t := entered (if s.cpu.e then 0xFFFA else 0xFFEA) (hardImage s.cpu) (polled s)
         { t with cpu := { t.cpu with run := .running, nmiReq := false } }))) ∧
    (s.cpu.nmiReq = false → s.irqLine = true → bitOf s.cpu.p 2 = false →
      step s = .next (charged
        (let t := entered (if s.cpu.e then 0xFFFE else 0xFFEE) (hardImage s.cpu) (polled s)
         { t with cpu := { t.cpu with run := .running } })))

/-- R354, R355: a stopped CPU idles whatever NMI and IRQ do; a waiting one idles until one of them comes, and an IRQ that `P.I`
masks wakes it with no entry. -/
def Obligations.WaitAndStopSteps : Prop :=
  ∀ s : State, Quiet s → s.resetReq = none →
    (s.cpu.run = .stopped → step s = .next (polled s)) ∧
    (s.cpu.run = .waiting → s.cpu.nmiReq = false → s.irqLine = false → step s = .next (polled s)) ∧
    (s.cpu.run = .waiting → s.cpu.nmiReq = false → s.irqLine = true → bitOf s.cpu.p 2 = true →
      step s = .next { polled s with cpu := { s.cpu with run := .running } })

/-- R351, R352, R372, R77, R78, R430: what each event of the environment changes. The model's choices: that the events are a script
that lands before the step (log 7, DESIGN CHOICE); that another agent's write to memory may change any cell, ROM too (log 23,
DESIGN CHOICE); that a VBLANK start sets the NMI latch where `$4200` enables it (log 25, DEDUCED); that a save-state load is an
event that replaces the CPU record, with an event of its own for the saved memory and device registers (log 22); that a change of the units outside this block is recorded as one of the
things their answers may depend on (log 4, DESIGN CHOICE). -/
def Obligations.EventsLandBeforeTheStep : Prop :=
  ∀ (s : State) (rest : List EnvEvent) (later : List (List EnvEvent)),
    (∀ lows, s.env = (.reset lows :: rest) :: later →
      step s = step { s with resetReq := some lows, env := rest :: later }) ∧
    (s.env = (.nmiEdge :: rest) :: later →
      step s = step { s with cpu := { s.cpu with nmiReq := true }, env := rest :: later }) ∧
    (s.env = (.vblank :: rest) :: later →
      step s = step
        { s with
          cpu := { s.cpu with nmiReq := s.cpu.nmiReq || bitOf s.bus.nmitimen 7 }
          bus := { s.bus with nmiFlag := true }
          env := rest :: later }) ∧
    (∀ level, s.env = (.irqLevel level :: rest) :: later → step s = step { s with irqLine := level, env := rest :: later }) ∧
    (∀ a v, s.env = (.memory a v :: rest) :: later → Memory.wf s.bus.mem →
      ∃ m, step s = step { s with bus := { s.bus with mem := m }, env := rest :: later } ∧ Memory.wf m ∧
        ∀ k, m.read k = if cellOf s.bus.params a = some k then v else s.bus.mem.read k) ∧
    (∀ (port : Fin 4) v, s.env = (.mailbox port v :: rest) :: later →
      ∃ fromApu : Vector Byte 4, step s = step { s with bus := { s.bus with fromApu := fromApu }, env := rest :: later } ∧
        ∀ port' : Fin 4, fromApu[port'] = if port' = port then v else s.bus.fromApu[port']) ∧
    (∀ w, s.env = (.pad w :: rest) :: later →
      step s = step { s with bus := { s.bus with padLive := w }, env := rest :: later }) ∧
    (∀ n, s.env = (.unitChange n :: rest) :: later →
      step s = step { s with bus := { s.bus with unitLog := .change n :: s.bus.unitLog }, env := rest :: later }) ∧
    (∀ c, s.env = (.loadState c :: rest) :: later → step s = step { s with cpu := c, env := rest :: later }) ∧
    (∀ saved, s.env = (.loadBus saved :: rest) :: later →
      step s = step
        { s with
          bus := { saved with params := s.bus.params, patches := s.bus.patches, unitLog := s.bus.unitLog }
          env := rest :: later })

/-- R39: `clock()` counts the budget down, and the call that finds it zero performs one step. -/
def Obligations.ClockCountsBudgetDown : Prop :=
  ∀ s : State,
    clocks s.cpu.budget s = .next { s with cpu := { s.cpu with budget := 0 } } ∧
    clocks (s.cpu.budget + 1) s = step { s with cpu := { s.cpu with budget := 0 } }

/-! Whole-machine rules over all instructions. -/

/-- R9, R30: the operand widths, from `E` and the flags M and X. -/
def Obligations.OperandWidths : Prop :=
  ∀ c : Cpu,
    c.m8 = (c.e || bitOf c.p 5) ∧ c.x8 = (c.e || bitOf c.p 4) ∧
    c.mw = (if c.e || bitOf c.p 5 then .w8 else .w16) ∧ c.xw = (if c.e || bitOf c.p 4 then .w8 else .w16)

/-- R24, R25, R29, R37, R38: which instructions may change D, DB, PB, E and the run state; no instruction touches the NMI latch,
the budget, the inputs or the environment. -/
def Obligations.RegisterWriters : Prop :=
  ∀ (i : Instr) (s t : State), exec i s = .next t →
    (mnem i ∉ [.tcd, .pld] → t.cpu.d = s.cpu.d) ∧
    (mnem i ∉ [.plb, .mvn, .mvp] → t.cpu.db = s.cpu.db) ∧
    (mnem i ∉ [.jml, .jsl, .rtl, .rti, .brk, .cop] → t.cpu.pb = s.cpu.pb) ∧
    (mnem i = .rti → s.cpu.e = true → t.cpu.pb = s.cpu.pb) ∧
    (mnem i ≠ .xce → t.cpu.e = s.cpu.e) ∧
    (mnem i ∉ [.wai, .stp] → t.cpu.run = s.cpu.run) ∧
    t.cpu.nmiReq = s.cpu.nmiReq ∧ t.cpu.budget = s.cpu.budget ∧
    t.irqLine = s.irqLine ∧ t.resetReq = s.resetReq ∧ t.env = s.env ∧ t.costDraws = s.costDraws

/-- R28: which instructions may change each flag. BIT immediate is no writer of N and V. -/
def Obligations.FlagWriters : Prop :=
  ∀ (i : Instr) (s t : State) (f : Flag), exec i s = .next t → ¬MayWriteFlag f i →
    bitOf t.cpu.p f.bit = bitOf s.cpu.p f.bit

/-- An instruction that stores nothing, the accumulator forms of INC, DEC and the shifts among them, leaves every cell of memory
as it was. That no instruction changes the parameters of the memory system, the cartridge among them (log 10), or the cheat
patches (log 17) is the model's choice. -/
def Obligations.MemoryWriters : Prop :=
  ∀ (i : Instr) (s t : State), exec i s = .next t →
    (¬MayStore i → SameBytes s.bus t.bus) ∧ t.bus.params = s.bus.params ∧ t.bus.patches = s.bus.patches

/-- R21, R32 item 3: under `m8` the high byte of A is left alone by every instruction but those named, which the width
discipline clears it in or which write all of A; so in emulation mode it stays zero but for XBA, TDC, TSC, MVN and MVP. -/
def Obligations.HiddenAccumulatorByte : Prop :=
  ∀ (i : Instr) (s t : State), exec i s = .next t →
    (s.cpu.m8 = true → mnem i ∉ [.rep, .sep, .plp, .rti, .xce, .xba, .tdc, .tsc, .mvn, .mvp] →
      t.cpu.a.toNat / 256 = s.cpu.a.toNat / 256) ∧
    (t.cpu.m8 = true → mnem i ∈ [.rep, .sep, .plp, .rti, .xce] → t.cpu.a.toNat / 256 = 0) ∧
    (t.cpu.e = true → s.cpu.a.toNat / 256 = 0 → mnem i ∉ [.xba, .tdc, .tsc, .mvn, .mvp] → t.cpu.a.toNat / 256 = 0)

/-! Memory and the Bus. -/

/-- R61, R62, R63: multi-byte accesses are single accesses, lowest offset first, and stay in their bank. -/
def Obligations.MultiByteAccessStaysInBank : Prop :=
  ∀ (b : Bus) (a : Addr) (w : Width) (v : Word),
    b.readW w a =
      (BitVec.ofNat 16 (leRead (bytesOf w) (a.toNat / 65536) (a.toNat % 65536) b).1,
        (leRead (bytesOf w) (a.toNat / 65536) (a.toNat % 65536) b).2) ∧
    b.read16 a =
      (BitVec.ofNat 16 (leRead 2 (a.toNat / 65536) (a.toNat % 65536) b).1,
        (leRead 2 (a.toNat / 65536) (a.toNat % 65536) b).2) ∧
    b.read24 a =
      (BitVec.ofNat 24 (leRead 3 (a.toNat / 65536) (a.toNat % 65536) b).1,
        (leRead 3 (a.toNat / 65536) (a.toNat % 65536) b).2) ∧
    b.writeW w a v = leWrite (bytesOf w) (a.toNat / 65536) (a.toNat % 65536) v.toNat b

/-- R65, R75, R79: a word stored to plain cells is read back, low byte at the lower address, by any later read; every other
cell keeps its byte. -/
def Obligations.StoreThenLoadBytes : Prop :=
  ∀ (b : Bus) (a : Addr) (v : Word), PlainCells (accessed 2 a) b →
    let b' := b.write16 a v
    (b'.read a).1 = byteOf v.toNat 0 ∧
    (b'.read (byteAddr (a.toNat / 65536) (a.toNat % 65536 + 1))).1 = byteOf v.toNat 1 ∧
    (b'.read16 a).1 = v ∧ Memory.wf b'.mem ∧
    ∀ a' k, cellOf b.params a' = some k → (∀ a'' ∈ accessed 2 a, ramCellOf b.params a'' ≠ some k) →
      (b'.read a').1 = (b.read a').1

/-- What answers each address; the clauses cover all of them. The memory system is a parameter (R7, D25): the first of its regions
that is for an address answers it (that the parameter has this form is the model's choice, log 1). Where none is, R70 and R71
say what does. -/
def Obligations.BusDecode : Prop :=
  ∀ (c : BusParams) (a : Addr),
    let bank := a.toNat / 65536
    let off := a.toNat % 65536
    let cartridgeOrOpen := fun t : Target => t = .openBus ∨ (∃ k, t = .rom k) ∨ ∃ k, t = .sram k
    (∀ before r after, c.map = before ++ r :: after → (∀ q ∈ before, ¬Covers q a) → Covers r a →
      decodeAddr c a = regionAnswer r a) ∧
    ((∀ r ∈ c.map, ¬Covers r a) →
      (bank = 0x7E ∨ bank = 0x7F → decodeAddr c a = .wram (0x7E0000 + a.toNat % 0x20000)) ∧
      (bank ≤ 0x3F ∨ 0x80 ≤ bank ∧ bank ≤ 0xBF →
        (off ≤ 0x1FFF → decodeAddr c a = .wram (0x7E0000 + off)) ∧
        (∀ port : Fin 4, off = 0x2140 + port → decodeAddr c a = .mailbox port) ∧
        (0x2100 ≤ off ∧ off ≤ 0x213F ∨ 0x2144 ≤ off ∧ off ≤ 0x21FF → decodeAddr c a = .ppu) ∧
        (off = 0x4016 → decodeAddr c a = .controller1) ∧
        (off = 0x4017 → decodeAddr c a = .controller2) ∧
        (0x4200 ≤ off ∧ off ≤ 0x421F → decodeAddr c a = .cpuReg off) ∧
        (0x4300 ≤ off ∧ off ≤ 0x437F → decodeAddr c a = .dmaReg) ∧
        (c.coprocessor = true → 0x3000 ≤ off ∧ off ≤ 0x32FF ∨ 0x6000 ≤ off ∧ off ≤ 0x7FFF → decodeAddr c a = .coprocessor) ∧
        (0x2000 ≤ off ∧ off ≤ 0x20FF ∨ 0x2200 ≤ off ∧ off ≤ 0x4015 ∨ 0x4018 ≤ off ∧ off ≤ 0x41FF ∨
            0x4220 ≤ off ∧ off ≤ 0x42FF ∨ 0x4380 ≤ off →
          (c.coprocessor = true → ¬(0x3000 ≤ off ∧ off ≤ 0x32FF ∨ 0x6000 ≤ off ∧ off ≤ 0x7FFF)) →
          cartridgeOrOpen (decodeAddr c a))) ∧
      (0x40 ≤ bank ∧ bank ≤ 0x7D ∨ 0xC0 ≤ bank → cartridgeOrOpen (decodeAddr c a)))

/-- R72: the ROM areas and the SRAM windows of the mappings, for addresses that no region of the parameter takes. Two addresses of an
area name one cell exactly when their places agree modulo the length. Two things are the model's choice and not R72's: that
under HiROM and ExHiROM offsets from `$8000` on of banks `$00-$3F` and `$80-$BF` are ROM too (PRESUMED, log 12: R73 says so of
bank `$00` alone), and where a place lies (PRESUMED, log 11 for SRAM and log 12 for ROM). -/
def Obligations.CartridgeWindows : Prop :=
  ∀ (c : BusParams) (a a' : Addr), c.romLen ≠ 0 → c.sramLen ≠ 0 → c.coprocessor = false →
    (∀ r ∈ c.map, ¬Covers r a ∧ ¬Covers r a') →
    let bank := fun a : Addr => a.toNat / 65536
    let off := fun a : Addr => a.toNat % 65536
    let loRom := fun a => bank a ≠ 0x7E ∧ bank a ≠ 0x7F ∧ 0x8000 ≤ off a
    let hiRom := fun a => 0x40 ≤ bank a ∧ bank a ≤ 0x7D ∨ 0xC0 ≤ bank a ∨ (bank a ≤ 0x3F ∨ 0x80 ≤ bank a) ∧ 0x8000 ≤ off a
    let loSram := fun a => (0x70 ≤ bank a ∧ bank a ≤ 0x7D ∨ 0xFE ≤ bank a) ∧ off a ≤ 0x7FFF
    let hiSram := fun a => 0x20 ≤ bank a ∧ bank a ≤ 0x3F ∧ 0x6000 ≤ off a ∧ off a ≤ 0x7FFF
    let loRomPlace := fun a => bank a % 0x80 * 0x8000 + (off a - 0x8000)
    let hiRomPlace := fun a => bank a % 0x40 * 0x10000 + off a
    let exRomPlace := fun a => (if bank a ≤ 0x7F then 0x400000 else 0) + bank a % 0x40 * 0x10000 + off a
    let loSramPlace := fun a => (bank a % 0x80 - 0x70) * 0x8000 + off a
    let hiSramPlace := fun a => (bank a - 0x20) * 0x2000 + (off a - 0x6000)
    let area := fun (inside : Addr → Prop) (place : Addr → Nat) (len : Nat) (t : Nat → Target) =>
      inside a → inside a' →
        (∃ k, decodeAddr c a = t k) ∧ (decodeAddr c a = decodeAddr c a' ↔ place a % len = place a' % len)
    (c.mapping = .loRom → area loRom loRomPlace c.romLen .rom ∧ area loSram loSramPlace c.sramLen .sram) ∧
    (c.mapping = .hiRom → area hiRom hiRomPlace c.romLen .rom ∧ area hiSram hiSramPlace c.sramLen .sram) ∧
    (c.mapping = .exHiRom → area hiRom exRomPlace c.romLen .rom ∧ area hiSram hiSramPlace c.sramLen .sram)

/-- R74: a write to ROM or to an unmapped address has no effect; an unmapped read answers any byte. The form of that free value is the
model's choice: it is a function of the address and of the record of what the units outside this block have been told, to which
the read is added (log 4, log 5, DESIGN CHOICE). -/
def Obligations.RomAndOpenBusAccess : Prop :=
  ∀ (b : Bus) (a : Addr) (v : Byte),
    ((∃ k, decodeAddr b.params a = .rom k) ∨ decodeAddr b.params a = .openBus → b.write a v = b) ∧
    (decodeAddr b.params a = .openBus → b.patches = [] →
      b.read a = (Config.busDraw b.unitLog a, { b with unitLog := .read a :: b.unitLog }))

/-- R374, R375: the multiply and divide units, at whatever addresses the memory system has their registers (I17: a parameter). Under
the map of R70 they are the spec's general-knowledge ones, `$4202` to `$4206` and `$4214` to `$4217`, product and remainder in
one register (PRESUMED, log 13); a region may give product and remainder registers of their own. -/
def Obligations.MultiplyDivideUnits : Prop :=
  ∀ b : Bus, b.patches = [] →
    let at' := fun (t : Target) (a : Addr) => decodeAddr b.params a = t
    let word := fun (b' : Bus) (lo hi : Addr) => (b'.read lo).1.toNat + 256 * ((b'.read lo).2.read hi).1.toNat
    (∀ (multA multB : Byte) (opA opB lo hi : Addr), at' (.cpuReg 0x4202) opA → at' (.cpuReg 0x4203) opB →
      at' (.cpuReg 0x4216) lo ∧ at' (.cpuReg 0x4217) hi ∨ at' (.productReg false) lo ∧ at' (.productReg true) hi →
      word ((b.write opA multA).write opB multB) lo hi = multA.toNat * multB.toNat) ∧
    ∀ (dividendLo dividendHi divisor : Byte) (opLo opHi opD quotLo quotHi lo hi : Addr),
      at' (.cpuReg 0x4204) opLo → at' (.cpuReg 0x4205) opHi → at' (.cpuReg 0x4206) opD →
      at' (.cpuReg 0x4214) quotLo → at' (.cpuReg 0x4215) quotHi →
      at' (.cpuReg 0x4216) lo ∧ at' (.cpuReg 0x4217) hi ∨ at' (.remainderReg false) lo ∧ at' (.remainderReg true) hi →
      let b' := ((b.write opLo dividendLo).write opHi dividendHi).write opD divisor
      let dividend := dividendLo.toNat + 256 * dividendHi.toNat
      word b' quotLo quotHi = (if divisor = 0 then 0xFFFF else dividend / divisor.toNat) ∧
      word b' lo hi = (if divisor = 0 then dividend else dividend % divisor.toNat)

/-- R372, R373, R78, at whatever addresses the memory system has the registers (`$4212`, `$4200` and the mailbox ports under the map
of R70): reading the NMI flag register answers the flag in bit 7 and clears it, and leaves the CPU's latch out of it; `$4200`
keeps the byte written; a mailbox read answers what the audio CPU wrote, whatever the CPU wrote. R77, R368: a write to `$420B`
carries out a whole transfer inside the write, its accesses in order. Which accesses (a free value) and that none is made when
`$00` is written are the model's choice (log 9). R7, I12: a unit outside this block answers any byte, which may depend on all it
has been told, and these units are told of each access to a register, `$4200` and the mailbox too (log 4, log 14, DESIGN
CHOICE). -/
def Obligations.FlagRegisterAndMailboxReads : Prop :=
  ∀ (b : Bus) (a : Addr) (v : Byte),
    let target := decodeAddr b.params a
    let told := { b with unitLog := .write a v :: b.unitLog }
    let outside := target = .ppu ∨ target = .controller2 ∨ target = .dmaReg ∨ target = .coprocessor ∨ target = .external
    (target = .cpuReg 0x420B →
      b.write a v = if v = 0 then told else carriedOut (Config.gdmaAccesses told.unitLog) told) ∧
    (target = .cpuReg 0x4200 → b.write a v = { told with nmitimen := v }) ∧
    (outside ∨ (∃ off, target = .cpuReg off ∧ off ∉ [0x4200, 0x4202, 0x4203, 0x4204, 0x4205, 0x4206, 0x420B]) →
      b.write a v = told) ∧
    (b.patches = [] →
      (target = .cpuReg 0x4212 → bitOf (b.read a).1 7 = b.nmiFlag ∧ bitOf ((b.read a).2.read a).1 7 = false) ∧
      (∀ port : Fin 4, target = .mailbox port →
        b.write a v = { told with toApu := b.toApu.set port v } ∧ ((b.write a v).read a).1 = b.fromApu[port] ∧
          (b.write a v).toApu[port] = v ∧ (b.read a).2 = { b with unitLog := .read a :: b.unitLog }) ∧
      (outside ∨ (∃ off, target = .cpuReg off ∧ off ∉ [0x4212, 0x4214, 0x4215, 0x4216, 0x4217]) →
        b.read a = (Config.busDraw b.unitLog a, { b with unitLog := .read a :: b.unitLog })))

/-- R78, at the address the memory system has the port (`$4016` under the map of R70): the falling edge of the strobe latches the
controller word, and reads then give its bits from the top; while the strobe is high a read shifts nothing. Which bit is the
strobe and which the answer is PRESUMED (log 15). -/
def Obligations.ControllerShiftsOut : Prop :=
  ∀ (b : Bus) (a : Addr), b.patches = [] → decodeAddr b.params a = .controller1 →
    ((rereads 16 a ((b.write a 0x01).write a 0x00)).1.map fun v => bitOf v 0) =
      ((List.range 16).map fun j => b.padLive.getLsbD (15 - j)) ∧
    ∀ n, ∀ v ∈ (rereads n a (b.write a 0x01)).1, bitOf v 0 = b.padShift.getLsbD 15

/-- R78, the cheat hook: a patch for the address, whose compare byte if any is the byte there, replaces the byte a read answers. The
model's choices (log 17, DESIGN CHOICE): where several patches fit the first gives the byte; the compare byte is held against a
device register's answer too; the read's side effects stay. -/
def Obligations.CheatHookSubstitutes : Prop :=
  ∀ (b : Bus) (a : Addr) (p : Patch) (rest : List Patch), b.patches = p :: rest →
    let raw := ({ b with patches := [] }).read a
    (b.read a).2 = { raw.2 with patches := b.patches } ∧
    (p.addr = a → (p.compare = none ∨ p.compare = some raw.1) → (b.read a).1 = p.value) ∧
    (p.addr ≠ a ∨ (p.compare ≠ none ∧ p.compare ≠ some raw.1) → (b.read a).1 = (({ b with patches := rest }).read a).1)

/-! Addressing. -/

/-- R101 to R115: the effective addresses of the modes. The direct modes do not touch the Bus; the indirect modes read their
pointers in bank `$00`. -/
def Obligations.EffectiveAddresses : Prop :=
  ∀ (c : Cpu) (b : Bus) (o : Word) (l : Addr) (d : Byte),
    let p2 := leRead 2 0 (c.d.toNat + d.toNat) b
    let p3 := leRead 3 0 (c.d.toNat + d.toNat) b
    let px := leRead 2 0 (c.d.toNat + d.toNat + c.x.toNat) b
    let ps := leRead 2 0 (c.s.toNat + d.toNat) b
    (MemMode.abs o).ea c b = (BitVec.ofNat 24 (c.db.toNat * 65536 + o.toNat), b) ∧
    (MemMode.absX o).ea c b = (BitVec.ofNat 24 (c.db.toNat * 65536 + o.toNat + c.x.toNat), b) ∧
    (MemMode.absY o).ea c b = (BitVec.ofNat 24 (c.db.toNat * 65536 + o.toNat + c.y.toNat), b) ∧
    (MemMode.long l).ea c b = (l, b) ∧
    (MemMode.longX l).ea c b = (BitVec.ofNat 24 (l.toNat + c.x.toNat), b) ∧
    (MemMode.dp d).ea c b = (byteAddr 0 (c.d.toNat + d.toNat), b) ∧
    (MemMode.dpX d).ea c b = (byteAddr 0 (c.d.toNat + d.toNat + c.x.toNat), b) ∧
    (MemMode.dpY d).ea c b = (byteAddr 0 (c.d.toNat + d.toNat + c.y.toNat), b) ∧
    (MemMode.sr d).ea c b = (byteAddr 0 (c.s.toNat + d.toNat), b) ∧
    (MemMode.dpInd d).ea c b = (BitVec.ofNat 24 (c.db.toNat * 65536 + p2.1), p2.2) ∧
    (MemMode.dpIndLong d).ea c b = (BitVec.ofNat 24 p3.1, p3.2) ∧
    (MemMode.dpIndY d).ea c b = (BitVec.ofNat 24 (c.db.toNat * 65536 + p2.1 + c.y.toNat), p2.2) ∧
    (MemMode.dpIndLongY d).ea c b = (BitVec.ofNat 24 (p3.1 + c.y.toNat), p3.2) ∧
    (MemMode.dpXInd d).ea c b = (BitVec.ofNat 24 (c.db.toNat * 65536 + px.1), px.2) ∧
    (MemMode.srIndY d).ea c b = (BitVec.ofNat 24 (c.db.toNat * 65536 + ps.1 + c.y.toNat), ps.2)

/-! Loads and stores. -/

/-- R140. -/
def Obligations.LdaResult : Prop :=
  LoadsOperand ldaForms Cpu.mw fun _ w v c => { c with a := intoAcc w c.a v, p := status c.p (nz w v) }

/-- R141, R142. -/
def Obligations.IndexLoadResult : Prop :=
  (LoadsOperand ldxForms Cpu.xw fun _ w v c => { c with x := BitVec.ofNat 16 v, p := status c.p (nz w v) }) ∧
  (LoadsOperand ldyForms Cpu.xw fun _ w v c => { c with y := BitVec.ofNat 16 v, p := status c.p (nz w v) })

/-- R143 to R146. -/
def Obligations.StoreResult : Prop :=
  (StoresValue staForms Cpu.mw fun w c => low w c.a) ∧
  (StoresValue stxForms Cpu.xw fun w c => low w c.x) ∧
  (StoresValue styForms Cpu.xw fun w c => low w c.y) ∧
  (StoresValue stzForms Cpu.mw fun _ _ => 0)

/-! Transfers. -/

/-- R160 to R171. -/
def Obligations.TransferResult : Prop :=
  (ChangesRegisters .tax 0xAA fun c =>
    { c with x := BitVec.ofNat 16 (low c.xw c.a), p := status c.p (nz c.xw (low c.xw c.a)) }) ∧
  (ChangesRegisters .tay 0xA8 fun c =>
    { c with y := BitVec.ofNat 16 (low c.xw c.a), p := status c.p (nz c.xw (low c.xw c.a)) }) ∧
  (ChangesRegisters .txa 0x8A fun c =>
    { c with a := intoAcc c.mw c.a c.x.toNat, p := status c.p (nz c.mw (low c.mw c.x)) }) ∧
  (ChangesRegisters .tya 0x98 fun c =>
    { c with a := intoAcc c.mw c.a c.y.toNat, p := status c.p (nz c.mw (low c.mw c.y)) }) ∧
  (ChangesRegisters .txy 0x9B fun c => { c with y := c.x, p := status c.p (nz c.xw c.x.toNat) }) ∧
  (ChangesRegisters .tyx 0xBB fun c => { c with x := c.y, p := status c.p (nz c.xw c.y.toNat) }) ∧
  (ChangesRegisters .tsx 0xBA fun c =>
    { c with x := BitVec.ofNat 16 (low c.xw c.s), p := status c.p (nz c.xw (low c.xw c.s)) }) ∧
  (ChangesRegisters .txs 0x9A fun c => { c with s := if c.e then BitVec.ofNat 16 (256 + c.x.toNat % 256) else c.x }) ∧
  (ChangesRegisters .tcd 0x5B fun c => { c with d := c.a, p := status c.p (nz .w16 c.a.toNat) }) ∧
  (ChangesRegisters .tdc 0x7B fun c => { c with a := c.d, p := status c.p (nz .w16 c.d.toNat) }) ∧
  (ChangesRegisters .tcs 0x1B fun c => { c with s := if c.e then BitVec.ofNat 16 (256 + c.a.toNat % 256) else c.a }) ∧
  (ChangesRegisters .tsc 0x3B fun c => { c with a := c.s, p := status c.p (nz .w16 c.s.toNat) })

/-- R172: the two bytes of the accumulator change places in every mode and width, N and Z of the new low byte. -/
def Obligations.XbaResult : Prop :=
  ChangesRegisters .xba 0xEB fun c =>
    { c with
      a := BitVec.ofNat 16 (c.a.toNat % 256 * 256 + c.a.toNat / 256)
      p := status c.p (nz .w8 (c.a.toNat / 256)) }

/-! Arithmetic. -/

/-- R180, R181: binary addition. The sum is reduced modulo `2^w`, C is the carry out, and V by the source's formula, which says
that the sum of the operands as signed numbers does not fit. -/
def Obligations.BinaryAdditionLaw : Prop :=
  ∀ (w : Width) (a b : Word) (c : Bool), a.toNat < 2 ^ w.bits → b.toNat < 2 ^ w.bits →
    let r := a.toNat + b.toNat + c.toNat
    (addBin w a b c).r.toNat = r % 2 ^ w.bits ∧
    (addBin w a b c).c = decide (r > 2 ^ w.bits - 1) ∧
    (addBin w a b c).v = (isNeg w a.toNat == isNeg w b.toNat && (isNeg w a.toNat != isNeg w r)) ∧
    ((addBin w a b c).v = true ↔
      ¬(-(2 : Int) ^ (w.bits - 1) ≤ signed w a.toNat + signed w b.toNat + c.toNat ∧
        signed w a.toNat + signed w b.toNat + c.toNat < 2 ^ (w.bits - 1)))

/-- R182, R183: the decimal algorithms nibble by nibble, on any operands: each digit sum, its correction, the carry to the next
digit, and V from the top digit before its correction. -/
def Obligations.DecimalCorrectionPerNibble : Prop :=
  ∀ (w : Width) (a b : Word) (c : Bool), a.toNat < 2 ^ w.bits → b.toNat < 2 ^ w.bits →
    addDec w a b c =
      { r := BitVec.ofNat 16 (addNibbles (digitsOf w) a.toNat b.toNat c).1
        c := (addNibbles (digitsOf w) a.toNat b.toNat c).2.1
        v := (addNibbles (digitsOf w) a.toNat b.toNat c).2.2 } ∧
    subDec w a b c =
      { r := BitVec.ofNat 16 (subNibbles (digitsOf w) a.toNat b.toNat c).1
        c := (subNibbles (digitsOf w) a.toNat b.toNat c).2.1
        v := (subNibbles (digitsOf w) a.toNat b.toNat c).2.2 }

/-- R182: on decimal digits, decimal addition adds the decimal numbers. -/
def Obligations.DecimalAdditionAddsDecimals : Prop :=
  ∀ (w : Width) (a b : Word) (c : Bool), a.toNat < 2 ^ w.bits → b.toNat < 2 ^ w.bits →
    isBcd (digitsOf w) a.toNat = true → isBcd (digitsOf w) b.toNat = true →
    let n := digitsOf w
    let sum := bcdValue n a.toNat + bcdValue n b.toNat + c.toNat
    (addDec w a b c).r.toNat < 2 ^ w.bits ∧ isBcd n (addDec w a b c).r.toNat = true ∧
    bcdValue n (addDec w a b c).r.toNat = sum % 10 ^ n ∧
    (addDec w a b c).c = decide (10 ^ n ≤ sum)

/-- R183: on decimal digits, decimal subtraction subtracts the decimal numbers, and C says that nothing was borrowed. -/
def Obligations.DecimalSubtractionSubtractsDecimals : Prop :=
  ∀ (w : Width) (a b : Word) (c : Bool), a.toNat < 2 ^ w.bits → b.toNat < 2 ^ w.bits →
    isBcd (digitsOf w) a.toNat = true → isBcd (digitsOf w) b.toNat = true →
    let n := digitsOf w
    let taken := bcdValue n b.toNat + (1 - c.toNat)
    (subDec w a b c).r.toNat < 2 ^ w.bits ∧ isBcd n (subDec w a b c).r.toNat = true ∧
    bcdValue n (subDec w a b c).r.toNat = (bcdValue n a.toNat + 10 ^ n - taken) % 10 ^ n ∧
    (subDec w a b c).c = decide (taken ≤ bcdValue n a.toNat)

/-- R184, R185: the accumulator and the flags, binary or decimal as `P.D` says. The sums are those of R181 to R183. -/
def Obligations.AdcSbcResult : Prop :=
  (LoadsOperand adcForms Cpu.mw fun _ w v c =>
    let a := BitVec.ofNat 16 (low w c.a)
    let out := if bitOf c.p 3 then addDec w a (BitVec.ofNat 16 v) (bitOf c.p 0)
      else addBin w a (BitVec.ofNat 16 v) (bitOf c.p 0)
    { c with
      a := intoAcc w c.a out.r.toNat
      p := status c.p
        { n := some (isNeg w out.r.toNat), v := some out.v, z := some (isZero w out.r.toNat), c := some out.c } }) ∧
  (LoadsOperand sbcForms Cpu.mw fun _ w v c =>
    let a := BitVec.ofNat 16 (low w c.a)
    let out := if bitOf c.p 3 then subDec w a (BitVec.ofNat 16 v) (bitOf c.p 0)
      else addBin w a (BitVec.ofNat 16 (2 ^ w.bits - 1 - v)) (bitOf c.p 0)
    { c with
      a := intoAcc w c.a out.r.toNat
      p := status c.p
        { n := some (isNeg w out.r.toNat), v := some out.v, z := some (isZero w out.r.toNat), c := some out.c } })

/-- R186 to R189: C is `reg >= op`, N and Z are of the difference modulo `2^w`; no register is written. -/
def Obligations.CompareResult : Prop :=
  let compared := fun (w : Width) (reg v : Nat) (c : Cpu) =>
    { c with
      p := status c.p
        { n := some (isNeg w ((reg + 2 ^ w.bits - v) % 2 ^ w.bits)), z := some (decide (reg = v)),
          c := some (decide (v ≤ reg)) } }
  (LoadsOperand cmpForms Cpu.mw fun _ w v c => compared w (low w c.a) v c) ∧
  (LoadsOperand cpxForms Cpu.xw fun _ w v c => compared w (low w c.x) v c) ∧
  (LoadsOperand cpyForms Cpu.xw fun _ w v c => compared w (low w c.y) v c)

/-- R190, R191, R64. -/
def Obligations.IncDecResult : Prop :=
  (ModifiesOperand incForms (fun w _ v => (v + 1) % 2 ^ w.bits) fun w _ v => nz w (v + 1)) ∧
  (ModifiesOperand decForms (fun w _ v => (v + 2 ^ w.bits - 1) % 2 ^ w.bits) fun w _ v => nz w (v + 2 ^ w.bits - 1))

/-- R192 to R195. -/
def Obligations.IndexStepResult : Prop :=
  let up := fun (w : Width) (r : Word) => (r.toNat + 1) % 2 ^ w.bits
  let down := fun (w : Width) (r : Word) => (r.toNat + 2 ^ w.bits - 1) % 2 ^ w.bits
  (ChangesRegisters .inx 0xE8 fun c => { c with x := BitVec.ofNat 16 (up c.xw c.x), p := status c.p (nz c.xw (up c.xw c.x)) }) ∧
  (ChangesRegisters .iny 0xC8 fun c => { c with y := BitVec.ofNat 16 (up c.xw c.y), p := status c.p (nz c.xw (up c.xw c.y)) }) ∧
  (ChangesRegisters .dex 0xCA fun c =>
    { c with x := BitVec.ofNat 16 (down c.xw c.x), p := status c.p (nz c.xw (down c.xw c.x)) }) ∧
  (ChangesRegisters .dey 0x88 fun c =>
    { c with y := BitVec.ofNat 16 (down c.xw c.y), p := status c.p (nz c.xw (down c.xw c.y)) })

/-! Logic and shifts. -/

/-- R210 to R212. -/
def Obligations.LogicResult : Prop :=
  let combined := fun (f : Nat → Nat → Nat) (_ : Operand) (w : Width) (v : Nat) (c : Cpu) =>
    { c with a := intoAcc w c.a (f (low w c.a) v), p := status c.p (nz w (f (low w c.a) v)) }
  LoadsOperand andForms Cpu.mw (combined (· &&& ·)) ∧
  LoadsOperand oraForms Cpu.mw (combined (· ||| ·)) ∧
  LoadsOperand eorForms Cpu.mw (combined (· ^^^ ·))

/-- R213: Z from the conjunction; for a memory operand N and V from its two top bits. -/
def Obligations.BitResult : Prop :=
  LoadsOperand bitForms Cpu.mw fun o w v c =>
    match o with
    | .imm _ => { c with p := status c.p { z := some (decide (low w c.a &&& v = 0)) } }
    | .mem _ =>
      { c with
        p := status c.p
          { z := some (decide (low w c.a &&& v = 0)), n := some (isNeg w v), v := some (v / 2 ^ (w.bits - 2) % 2 == 1) } }

/-- R214, R215, R64. -/
def Obligations.TsbTrbResult : Prop :=
  (ModifiesOperand tsbForms (fun w c v => v ||| low w c.a) fun w c v => { z := some (decide (low w c.a &&& v = 0)) }) ∧
  (ModifiesOperand trbForms (fun w c v => v &&& (2 ^ w.bits - 1 - low w c.a)) fun w c v =>
    { z := some (decide (low w c.a &&& v = 0)) })

/-- R216 to R219, R64. -/
def Obligations.ShiftResult : Prop :=
  let flags := fun (out : Bool) (w : Width) (r : Nat) => { nz w r with c := some out }
  (ModifiesOperand aslForms (fun w _ v => 2 * v % 2 ^ w.bits) fun w _ v => flags (isNeg w v) w (2 * v)) ∧
  (ModifiesOperand lsrForms (fun _ _ v => v / 2) fun w _ v => flags (v % 2 == 1) w (v / 2)) ∧
  (ModifiesOperand rolForms (fun w c v => (2 * v + (bitOf c.p 0).toNat) % 2 ^ w.bits) fun w c v =>
    flags (isNeg w v) w (2 * v + (bitOf c.p 0).toNat)) ∧
  (ModifiesOperand rorForms (fun w c v => v / 2 + (bitOf c.p 0).toNat * 2 ^ (w.bits - 1)) fun w c v =>
    flags (v % 2 == 1) w (v / 2 + (bitOf c.p 0).toNat * 2 ^ (w.bits - 1)))

/-! Control flow. -/

/-- R240 to R249. -/
def Obligations.BranchResult : Prop :=
  BranchesIf .bpl 0x10 (fun p => !bitOf p 7) ∧ BranchesIf .bmi 0x30 (fun p => bitOf p 7) ∧
  BranchesIf .bvc 0x50 (fun p => !bitOf p 6) ∧ BranchesIf .bvs 0x70 (fun p => bitOf p 6) ∧
  BranchesIf .bcc 0x90 (fun p => !bitOf p 0) ∧ BranchesIf .bcs 0xB0 (fun p => bitOf p 0) ∧
  BranchesIf .bne 0xD0 (fun p => !bitOf p 1) ∧ BranchesIf .beq 0xF0 (fun p => bitOf p 1) ∧
  BranchesIf .bra 0x80 (fun _ => true)

/-- R250, R251, R252: BRL, JMP and JML; the pointers of the indirect forms are read from bank `$00` or `PB`, and no cell of
memory changes. -/
def Obligations.JumpResult : Prop :=
  ∀ (s : State) (r o : Word) (l : Addr),
    let ind := leRead 2 0 o.toNat s.bus
    let indX := leRead 2 s.cpu.pb.toNat (o.toNat + s.cpu.x.toNat) s.bus
    let indL := leRead 3 0 o.toNat s.bus
    encode (.brl r) = 0x82 :: modeBytes (.abs r) ∧ encode (.jmpAbs o) = 0x4C :: modeBytes (.abs o) ∧
    encode (.jmpInd o) = 0x6C :: modeBytes (.abs o) ∧ encode (.jmpIndX o) = 0x7C :: modeBytes (.abs o) ∧
    encode (.jmlLong l) = 0x5C :: modeBytes (.long l) ∧ encode (.jmlInd o) = 0xDC :: modeBytes (.abs o) ∧
    exec (.brl r) s = .next { s with cpu := { s.cpu with pc := BitVec.ofNat 16 (s.cpu.pc.toNat + r.toNat) } } ∧
    exec (.jmpAbs o) s = .next { s with cpu := { s.cpu with pc := o } } ∧
    exec (.jmpInd o) s = .next { s with cpu := { s.cpu with pc := BitVec.ofNat 16 ind.1 }, bus := ind.2 } ∧
    exec (.jmpIndX o) s = .next { s with cpu := { s.cpu with pc := BitVec.ofNat 16 indX.1 }, bus := indX.2 } ∧
    exec (.jmlLong l) s = .next
      { s with cpu := { s.cpu with pb := BitVec.ofNat 8 (l.toNat / 65536), pc := BitVec.ofNat 16 l.toNat } } ∧
    exec (.jmlInd o) s = .next
      { s with
        cpu := { s.cpu with pb := BitVec.ofNat 8 (indL.1 / 65536), pc := BitVec.ofNat 16 indL.1 }
        bus := indL.2 } ∧
    SameBytes s.bus ind.2 ∧ SameBytes s.bus indX.2 ∧ SameBytes s.bus indL.2

/-- R253, R254: JSR and JSL push the address of the instruction's last byte; the pointer of JSR `(abs,X)` is read first. -/
def Obligations.CallResult : Prop :=
  ∀ (s : State) (o : Word) (l : Addr),
    let ret := pushWord (s.cpu.pc.toNat + 65535)
    let indX := leRead 2 s.cpu.pb.toNat (o.toNat + s.cpu.x.toNat) s.bus
    encode (.jsrAbs o) = 0x20 :: modeBytes (.abs o) ∧ encode (.jsrIndX o) = 0xFC :: modeBytes (.abs o) ∧
    encode (.jsl l) = 0x22 :: modeBytes (.long l) ∧
    exec (.jsrAbs o) s = .next (afterPushes ret (fun c => { c with pc := o }) s) ∧
    exec (.jsrIndX o) s = .next
      (afterPushes ret (fun c => { c with pc := BitVec.ofNat 16 indX.1 }) { s with bus := indX.2 }) ∧
    exec (.jsl l) s = .next
      (afterPushes (s.cpu.pb :: ret)
        (fun c => { c with pb := BitVec.ofNat 8 (l.toNat / 65536), pc := BitVec.ofNat 16 l.toNat }) s) ∧
    OnlyCells (pushAddrs s.cpu.e 2 s.cpu.s) s.bus (afterPushes ret id s).bus ∧
    OnlyCells (pushAddrs s.cpu.e 2 s.cpu.s) s.bus (afterPushes ret id { s with bus := indX.2 }).bus ∧
    OnlyCells (pushAddrs s.cpu.e 3 s.cpu.s) s.bus (afterPushes (s.cpu.pb :: ret) id s).bus

/-- R255, R256. -/
def Obligations.ReturnResult : Prop :=
  (PullsBytes .rts 0x60 (fun _ => 2) fun v c => { c with pc := BitVec.ofNat 16 (v + 1) }) ∧
  (PullsBytes .rtl 0x6B (fun _ => 3) fun v c =>
    { c with pc := BitVec.ofNat 16 (v + 1), pb := BitVec.ofNat 8 (v / 65536) })

/-- R255 and R256 undo R253 and R254: over a stack of plain cells, a call goes to its target, and the return brings every
register back, `PC` at the instruction after the call. -/
def Obligations.CallThenReturn : Prop :=
  ∀ (s : State) (o : Word) (l : Addr), s.Inv →
    (PlainCells (pushAddrs s.cpu.e 2 s.cpu.s) s.bus →
      (∃ t u, exec (.jsrAbs o) s = .next t ∧ t.cpu.pc = o ∧ exec .rts t = .next u ∧ u.cpu = s.cpu) ∧
      ∃ t u, exec (.jsrIndX o) s = .next t ∧ exec .rts t = .next u ∧ u.cpu = s.cpu) ∧
    (PlainCells (pushAddrs s.cpu.e 3 s.cpu.s) s.bus →
      ∃ t u, exec (.jsl l) s = .next t ∧ mkAddr t.cpu.pb t.cpu.pc = l ∧ exec .rtl t = .next u ∧ u.cpu = s.cpu)

/-! The stack. -/

/-- R270 to R276, with R33 and R35. -/
def Obligations.PushResult : Prop :=
  encode .pha = [0x48] ∧ encode .php = [0x08] ∧ encode .phx = [0xDA] ∧ encode .phy = [0x5A] ∧ encode .phb = [0x8B] ∧
  encode .phd = [0x0B] ∧ encode .phk = [0x4B] ∧
  PushesBytes .pha (fun c => pushAt c.mw c.a) ∧ PushesBytes .php (fun c => [c.p]) ∧
  PushesBytes .phx (fun c => pushAt c.xw c.x) ∧ PushesBytes .phy (fun c => pushAt c.xw c.y) ∧
  PushesBytes .phb (fun c => [c.db]) ∧ PushesBytes .phd (fun c => pushWord c.d.toNat) ∧ PushesBytes .phk (fun c => [c.pb])

/-- R277 to R282, with R34 and R36. -/
def Obligations.PullResult : Prop :=
  (PullsBytes .pla 0x68 (fun c => bytesOf c.mw) fun v c =>
    { c with a := intoAcc c.mw c.a v, p := status c.p (nz c.mw v) }) ∧
  (PullsBytes .plp 0x28 (fun _ => 1) fun v c => disciplined { c with p := BitVec.ofNat 8 v }) ∧
  (PullsBytes .plx 0xFA (fun c => bytesOf c.xw) fun v c =>
    { c with x := BitVec.ofNat 16 v, p := status c.p (nz c.xw v) }) ∧
  (PullsBytes .ply 0x7A (fun c => bytesOf c.xw) fun v c =>
    { c with y := BitVec.ofNat 16 v, p := status c.p (nz c.xw v) }) ∧
  (PullsBytes .plb 0xAB (fun _ => 1) fun v c => { c with db := BitVec.ofNat 8 v, p := status c.p (nz .w8 v) }) ∧
  (PullsBytes .pld 0x2B (fun _ => 2) fun v c => { c with d := BitVec.ofNat 16 v, p := status c.p (nz .w16 v) })

/-- R283 to R285: PEA, PEI (which reads its word in the direct page first) and PER. -/
def Obligations.PushEffectiveAddressResult : Prop :=
  ∀ (v : Word) (d : Byte) (s : State),
    let word := leRead 2 0 (s.cpu.d.toNat + d.toNat) s.bus
    encode (.pea v) = 0xF4 :: modeBytes (.abs v) ∧ encode (.pei d) = [0xD4, d] ∧
    encode (.per v) = 0x62 :: modeBytes (.abs v) ∧
    exec (.pea v) s = .next (afterPushes (pushWord v.toNat) id s) ∧
    exec (.pei d) s = .next (afterPushes (pushWord word.1) id { s with bus := word.2 }) ∧
    exec (.per v) s = .next (afterPushes (pushWord (s.cpu.pc.toNat + v.toNat)) id s) ∧
    ∀ bytes, bytes.length = 2 →
      OnlyCells (pushAddrs s.cpu.e 2 s.cpu.s) s.bus (afterPushes bytes id s).bus ∧
      OnlyCells (pushAddrs s.cpu.e 2 s.cpu.s) s.bus (afterPushes bytes id { s with bus := word.2 }).bus

/-! Status and mode. -/

/-- R300 to R306. -/
def Obligations.FlagInstructionResult : Prop :=
  (ChangesRegisters .clc 0x18 fun c => { c with p := status c.p { c := some false } }) ∧
  (ChangesRegisters .sec 0x38 fun c => { c with p := status c.p { c := some true } }) ∧
  (ChangesRegisters .cli 0x58 fun c => { c with p := status c.p { i := some false } }) ∧
  (ChangesRegisters .sei 0x78 fun c => { c with p := status c.p { i := some true } }) ∧
  (ChangesRegisters .cld 0xD8 fun c => { c with p := status c.p { d := some false } }) ∧
  (ChangesRegisters .sed 0xF8 fun c => { c with p := status c.p { d := some true } }) ∧
  (ChangesRegisters .clv 0xB8 fun c => { c with p := status c.p { v := some false } })

/-- R307, R308, with R31. -/
def Obligations.RepSepResult : Prop :=
  ∀ (k : Byte) (s : State),
    encode (.rep k) = [0xC2, k] ∧ encode (.sep k) = [0xE2, k] ∧
    exec (.rep k) s = .next
      { s with cpu := disciplined { s.cpu with p := BitVec.ofNat 8 (s.cpu.p.toNat &&& (255 - k.toNat)) } } ∧
    exec (.sep k) s = .next { s with cpu := disciplined { s.cpu with p := BitVec.ofNat 8 (s.cpu.p.toNat ||| k.toNat) } }

/-- R309, with R31. -/
def Obligations.XceResult : Prop :=
  ChangesRegisters .xce 0xFB fun c =>
    let entering := if !c.e && bitOf c.p 0 then some true else none
    disciplined { c with e := bitOf c.p 0, p := status c.p { c := some c.e, m := entering, x := entering } }

/-! System. -/

/-- R320, R321, with R356 to R358: the signature byte is ignored, and the entry stores to the stack only. -/
def Obligations.SoftwareInterruptResult : Prop :=
  ∀ (sig : Byte) (s : State),
    encode (.brk sig) = [0x00, sig] ∧ encode (.cop sig) = [0x02, sig] ∧
    exec (.brk sig) s = .next (entered (if s.cpu.e then 0xFFFE else 0xFFE6) (softImage s.cpu) s) ∧
    exec (.cop sig) s = .next (entered (if s.cpu.e then 0xFFF4 else 0xFFE4) (softImage s.cpu) s) ∧
    ∀ vector image, OnlyCells (entryAddrs s.cpu) s.bus (entered vector image s).bus

/-- R322: P, then PC, then in native mode PB, and the width discipline. -/
def Obligations.RtiResult : Prop :=
  PullsBytes .rti 0x40 (fun c => if c.e then 3 else 4) fun v c =>
    disciplined
      { c with
        p := BitVec.ofNat 8 v
        pc := BitVec.ofNat 16 (v / 256)
        pb := if c.e then c.pb else BitVec.ofNat 8 (v / 16777216) }

/-- R361: over a stack of plain cells RTI brings back what the entry of BRK, COP, NMI or IRQ saved: PC, S and the status image, in native mode PB
too; E, DB and D are not touched; the width discipline masks A. -/
def Obligations.InterruptThenRtiResumes : Prop :=
  ∀ s : State, s.Inv → PlainCells (entryAddrs s.cpu) s.bus →
    let resumed := fun (image : Byte) =>
      { s.cpu with
        p := image
        pb := if s.cpu.e then 0x00 else s.cpu.pb
        a := if s.cpu.e || bitOf image 5 then BitVec.ofNat 16 (s.cpu.a.toNat % 256) else s.cpu.a }
    (∀ sig, ∃ t u, exec (.brk sig) s = .next t ∧ exec .rti t = .next u ∧ u.cpu = resumed (softImage s.cpu)) ∧
    (∀ sig, ∃ t u, exec (.cop sig) s = .next t ∧ exec .rti t = .next u ∧ u.cpu = resumed (softImage s.cpu)) ∧
    (Quiet s → s.resetReq = none → s.cpu.run ≠ .stopped → s.cpu.nmiReq = true →
      ∃ t u, step s = .next t ∧ exec .rti t = .next u ∧
        u.cpu = { resumed (hardImage s.cpu) with run := .running, nmiReq := false, budget := t.cpu.budget }) ∧
    (Quiet s → s.resetReq = none → s.cpu.run ≠ .stopped → s.cpu.nmiReq = false → s.irqLine = true → bitOf s.cpu.p 2 = false →
      ∃ t u, step s = .next t ∧ exec .rti t = .next u ∧
        u.cpu = { resumed (hardImage s.cpu) with run := .running, budget := t.cpu.budget })

/-- R323, R324, R326, R327. -/
def Obligations.NopWaitStopResult : Prop :=
  ChangesRegisters .nop 0xEA (fun c => c) ∧
  (∀ (v : Byte) (s : State), encode (.wdm v) = [0x42, v] ∧ exec (.wdm v) s = .next s) ∧
  ChangesRegisters .wai 0xCB (fun c => { c with run := .waiting }) ∧
  ChangesRegisters .stp 0xDB (fun c => { c with run := .stopped })

/-! Block moves. -/

/-- R340, R341. -/
def Obligations.BlockMoveResult : Prop := MovesBlock .mvn 0x54 true ∧ MovesBlock .mvp 0x44 false
end

