-- ==== Sys2Proof/Laws/State.lean ====
section
/-! SUPPORT. One lemma for each field of the state under each register update: reading the field back. -/

namespace Sys2Proof.Machine

variable (s : State)

@[simp] theorem State.setA_cpu_a (v : Word) : (s.setA v).cpu.a = v := rfl
@[simp] theorem State.setA_cpu_x (v : Word) : (s.setA v).cpu.x = s.cpu.x := rfl
@[simp] theorem State.setA_cpu_y (v : Word) : (s.setA v).cpu.y = s.cpu.y := rfl
@[simp] theorem State.setA_cpu_s (v : Word) : (s.setA v).cpu.s = s.cpu.s := rfl
@[simp] theorem State.setA_cpu_d (v : Word) : (s.setA v).cpu.d = s.cpu.d := rfl
@[simp] theorem State.setA_cpu_db (v : Word) : (s.setA v).cpu.db = s.cpu.db := rfl
@[simp] theorem State.setA_cpu_pb (v : Word) : (s.setA v).cpu.pb = s.cpu.pb := rfl
@[simp] theorem State.setA_cpu_pc (v : Word) : (s.setA v).cpu.pc = s.cpu.pc := rfl
@[simp] theorem State.setA_cpu_p (v : Word) : (s.setA v).cpu.p = s.cpu.p := rfl
@[simp] theorem State.setA_cpu_e (v : Word) : (s.setA v).cpu.e = s.cpu.e := rfl
@[simp] theorem State.setA_cpu_run (v : Word) : (s.setA v).cpu.run = s.cpu.run := rfl
@[simp] theorem State.setA_cpu_nmiReq (v : Word) : (s.setA v).cpu.nmiReq = s.cpu.nmiReq := rfl
@[simp] theorem State.setA_cpu_budget (v : Word) : (s.setA v).cpu.budget = s.cpu.budget := rfl
@[simp] theorem State.setA_irqLine (v : Word) : (s.setA v).irqLine = s.irqLine := rfl
@[simp] theorem State.setA_resetReq (v : Word) : (s.setA v).resetReq = s.resetReq := rfl
@[simp] theorem State.setA_bus (v : Word) : (s.setA v).bus = s.bus := rfl
@[simp] theorem State.setA_env (v : Word) : (s.setA v).env = s.env := rfl
@[simp] theorem State.setA_costDraws (v : Word) : (s.setA v).costDraws = s.costDraws := rfl

@[simp] theorem State.setX_cpu_a (v : Word) : (s.setX v).cpu.a = s.cpu.a := rfl
@[simp] theorem State.setX_cpu_x (v : Word) : (s.setX v).cpu.x = v := rfl
@[simp] theorem State.setX_cpu_y (v : Word) : (s.setX v).cpu.y = s.cpu.y := rfl
@[simp] theorem State.setX_cpu_s (v : Word) : (s.setX v).cpu.s = s.cpu.s := rfl
@[simp] theorem State.setX_cpu_d (v : Word) : (s.setX v).cpu.d = s.cpu.d := rfl
@[simp] theorem State.setX_cpu_db (v : Word) : (s.setX v).cpu.db = s.cpu.db := rfl
@[simp] theorem State.setX_cpu_pb (v : Word) : (s.setX v).cpu.pb = s.cpu.pb := rfl
@[simp] theorem State.setX_cpu_pc (v : Word) : (s.setX v).cpu.pc = s.cpu.pc := rfl
@[simp] theorem State.setX_cpu_p (v : Word) : (s.setX v).cpu.p = s.cpu.p := rfl
@[simp] theorem State.setX_cpu_e (v : Word) : (s.setX v).cpu.e = s.cpu.e := rfl
@[simp] theorem State.setX_cpu_run (v : Word) : (s.setX v).cpu.run = s.cpu.run := rfl
@[simp] theorem State.setX_cpu_nmiReq (v : Word) : (s.setX v).cpu.nmiReq = s.cpu.nmiReq := rfl
@[simp] theorem State.setX_cpu_budget (v : Word) : (s.setX v).cpu.budget = s.cpu.budget := rfl
@[simp] theorem State.setX_irqLine (v : Word) : (s.setX v).irqLine = s.irqLine := rfl
@[simp] theorem State.setX_resetReq (v : Word) : (s.setX v).resetReq = s.resetReq := rfl
@[simp] theorem State.setX_bus (v : Word) : (s.setX v).bus = s.bus := rfl
@[simp] theorem State.setX_env (v : Word) : (s.setX v).env = s.env := rfl
@[simp] theorem State.setX_costDraws (v : Word) : (s.setX v).costDraws = s.costDraws := rfl

@[simp] theorem State.setY_cpu_a (v : Word) : (s.setY v).cpu.a = s.cpu.a := rfl
@[simp] theorem State.setY_cpu_x (v : Word) : (s.setY v).cpu.x = s.cpu.x := rfl
@[simp] theorem State.setY_cpu_y (v : Word) : (s.setY v).cpu.y = v := rfl
@[simp] theorem State.setY_cpu_s (v : Word) : (s.setY v).cpu.s = s.cpu.s := rfl
@[simp] theorem State.setY_cpu_d (v : Word) : (s.setY v).cpu.d = s.cpu.d := rfl
@[simp] theorem State.setY_cpu_db (v : Word) : (s.setY v).cpu.db = s.cpu.db := rfl
@[simp] theorem State.setY_cpu_pb (v : Word) : (s.setY v).cpu.pb = s.cpu.pb := rfl
@[simp] theorem State.setY_cpu_pc (v : Word) : (s.setY v).cpu.pc = s.cpu.pc := rfl
@[simp] theorem State.setY_cpu_p (v : Word) : (s.setY v).cpu.p = s.cpu.p := rfl
@[simp] theorem State.setY_cpu_e (v : Word) : (s.setY v).cpu.e = s.cpu.e := rfl
@[simp] theorem State.setY_cpu_run (v : Word) : (s.setY v).cpu.run = s.cpu.run := rfl
@[simp] theorem State.setY_cpu_nmiReq (v : Word) : (s.setY v).cpu.nmiReq = s.cpu.nmiReq := rfl
@[simp] theorem State.setY_cpu_budget (v : Word) : (s.setY v).cpu.budget = s.cpu.budget := rfl
@[simp] theorem State.setY_irqLine (v : Word) : (s.setY v).irqLine = s.irqLine := rfl
@[simp] theorem State.setY_resetReq (v : Word) : (s.setY v).resetReq = s.resetReq := rfl
@[simp] theorem State.setY_bus (v : Word) : (s.setY v).bus = s.bus := rfl
@[simp] theorem State.setY_env (v : Word) : (s.setY v).env = s.env := rfl
@[simp] theorem State.setY_costDraws (v : Word) : (s.setY v).costDraws = s.costDraws := rfl

@[simp] theorem State.setS_cpu_a (v : Word) : (s.setS v).cpu.a = s.cpu.a := rfl
@[simp] theorem State.setS_cpu_x (v : Word) : (s.setS v).cpu.x = s.cpu.x := rfl
@[simp] theorem State.setS_cpu_y (v : Word) : (s.setS v).cpu.y = s.cpu.y := rfl
@[simp] theorem State.setS_cpu_s (v : Word) : (s.setS v).cpu.s = v := rfl
@[simp] theorem State.setS_cpu_d (v : Word) : (s.setS v).cpu.d = s.cpu.d := rfl
@[simp] theorem State.setS_cpu_db (v : Word) : (s.setS v).cpu.db = s.cpu.db := rfl
@[simp] theorem State.setS_cpu_pb (v : Word) : (s.setS v).cpu.pb = s.cpu.pb := rfl
@[simp] theorem State.setS_cpu_pc (v : Word) : (s.setS v).cpu.pc = s.cpu.pc := rfl
@[simp] theorem State.setS_cpu_p (v : Word) : (s.setS v).cpu.p = s.cpu.p := rfl
@[simp] theorem State.setS_cpu_e (v : Word) : (s.setS v).cpu.e = s.cpu.e := rfl
@[simp] theorem State.setS_cpu_run (v : Word) : (s.setS v).cpu.run = s.cpu.run := rfl
@[simp] theorem State.setS_cpu_nmiReq (v : Word) : (s.setS v).cpu.nmiReq = s.cpu.nmiReq := rfl
@[simp] theorem State.setS_cpu_budget (v : Word) : (s.setS v).cpu.budget = s.cpu.budget := rfl
@[simp] theorem State.setS_irqLine (v : Word) : (s.setS v).irqLine = s.irqLine := rfl
@[simp] theorem State.setS_resetReq (v : Word) : (s.setS v).resetReq = s.resetReq := rfl
@[simp] theorem State.setS_bus (v : Word) : (s.setS v).bus = s.bus := rfl
@[simp] theorem State.setS_env (v : Word) : (s.setS v).env = s.env := rfl
@[simp] theorem State.setS_costDraws (v : Word) : (s.setS v).costDraws = s.costDraws := rfl

@[simp] theorem State.setD_cpu_a (v : Word) : (s.setD v).cpu.a = s.cpu.a := rfl
@[simp] theorem State.setD_cpu_x (v : Word) : (s.setD v).cpu.x = s.cpu.x := rfl
@[simp] theorem State.setD_cpu_y (v : Word) : (s.setD v).cpu.y = s.cpu.y := rfl
@[simp] theorem State.setD_cpu_s (v : Word) : (s.setD v).cpu.s = s.cpu.s := rfl
@[simp] theorem State.setD_cpu_d (v : Word) : (s.setD v).cpu.d = v := rfl
@[simp] theorem State.setD_cpu_db (v : Word) : (s.setD v).cpu.db = s.cpu.db := rfl
@[simp] theorem State.setD_cpu_pb (v : Word) : (s.setD v).cpu.pb = s.cpu.pb := rfl
@[simp] theorem State.setD_cpu_pc (v : Word) : (s.setD v).cpu.pc = s.cpu.pc := rfl
@[simp] theorem State.setD_cpu_p (v : Word) : (s.setD v).cpu.p = s.cpu.p := rfl
@[simp] theorem State.setD_cpu_e (v : Word) : (s.setD v).cpu.e = s.cpu.e := rfl
@[simp] theorem State.setD_cpu_run (v : Word) : (s.setD v).cpu.run = s.cpu.run := rfl
@[simp] theorem State.setD_cpu_nmiReq (v : Word) : (s.setD v).cpu.nmiReq = s.cpu.nmiReq := rfl
@[simp] theorem State.setD_cpu_budget (v : Word) : (s.setD v).cpu.budget = s.cpu.budget := rfl
@[simp] theorem State.setD_irqLine (v : Word) : (s.setD v).irqLine = s.irqLine := rfl
@[simp] theorem State.setD_resetReq (v : Word) : (s.setD v).resetReq = s.resetReq := rfl
@[simp] theorem State.setD_bus (v : Word) : (s.setD v).bus = s.bus := rfl
@[simp] theorem State.setD_env (v : Word) : (s.setD v).env = s.env := rfl
@[simp] theorem State.setD_costDraws (v : Word) : (s.setD v).costDraws = s.costDraws := rfl

@[simp] theorem State.setDB_cpu_a (v : Byte) : (s.setDB v).cpu.a = s.cpu.a := rfl
@[simp] theorem State.setDB_cpu_x (v : Byte) : (s.setDB v).cpu.x = s.cpu.x := rfl
@[simp] theorem State.setDB_cpu_y (v : Byte) : (s.setDB v).cpu.y = s.cpu.y := rfl
@[simp] theorem State.setDB_cpu_s (v : Byte) : (s.setDB v).cpu.s = s.cpu.s := rfl
@[simp] theorem State.setDB_cpu_d (v : Byte) : (s.setDB v).cpu.d = s.cpu.d := rfl
@[simp] theorem State.setDB_cpu_db (v : Byte) : (s.setDB v).cpu.db = v := rfl
@[simp] theorem State.setDB_cpu_pb (v : Byte) : (s.setDB v).cpu.pb = s.cpu.pb := rfl
@[simp] theorem State.setDB_cpu_pc (v : Byte) : (s.setDB v).cpu.pc = s.cpu.pc := rfl
@[simp] theorem State.setDB_cpu_p (v : Byte) : (s.setDB v).cpu.p = s.cpu.p := rfl
@[simp] theorem State.setDB_cpu_e (v : Byte) : (s.setDB v).cpu.e = s.cpu.e := rfl
@[simp] theorem State.setDB_cpu_run (v : Byte) : (s.setDB v).cpu.run = s.cpu.run := rfl
@[simp] theorem State.setDB_cpu_nmiReq (v : Byte) : (s.setDB v).cpu.nmiReq = s.cpu.nmiReq := rfl
@[simp] theorem State.setDB_cpu_budget (v : Byte) : (s.setDB v).cpu.budget = s.cpu.budget := rfl
@[simp] theorem State.setDB_irqLine (v : Byte) : (s.setDB v).irqLine = s.irqLine := rfl
@[simp] theorem State.setDB_resetReq (v : Byte) : (s.setDB v).resetReq = s.resetReq := rfl
@[simp] theorem State.setDB_bus (v : Byte) : (s.setDB v).bus = s.bus := rfl
@[simp] theorem State.setDB_env (v : Byte) : (s.setDB v).env = s.env := rfl
@[simp] theorem State.setDB_costDraws (v : Byte) : (s.setDB v).costDraws = s.costDraws := rfl

@[simp] theorem State.setPB_cpu_a (v : Byte) : (s.setPB v).cpu.a = s.cpu.a := rfl
@[simp] theorem State.setPB_cpu_x (v : Byte) : (s.setPB v).cpu.x = s.cpu.x := rfl
@[simp] theorem State.setPB_cpu_y (v : Byte) : (s.setPB v).cpu.y = s.cpu.y := rfl
@[simp] theorem State.setPB_cpu_s (v : Byte) : (s.setPB v).cpu.s = s.cpu.s := rfl
@[simp] theorem State.setPB_cpu_d (v : Byte) : (s.setPB v).cpu.d = s.cpu.d := rfl
@[simp] theorem State.setPB_cpu_db (v : Byte) : (s.setPB v).cpu.db = s.cpu.db := rfl
@[simp] theorem State.setPB_cpu_pb (v : Byte) : (s.setPB v).cpu.pb = v := rfl
@[simp] theorem State.setPB_cpu_pc (v : Byte) : (s.setPB v).cpu.pc = s.cpu.pc := rfl
@[simp] theorem State.setPB_cpu_p (v : Byte) : (s.setPB v).cpu.p = s.cpu.p := rfl
@[simp] theorem State.setPB_cpu_e (v : Byte) : (s.setPB v).cpu.e = s.cpu.e := rfl
@[simp] theorem State.setPB_cpu_run (v : Byte) : (s.setPB v).cpu.run = s.cpu.run := rfl
@[simp] theorem State.setPB_cpu_nmiReq (v : Byte) : (s.setPB v).cpu.nmiReq = s.cpu.nmiReq := rfl
@[simp] theorem State.setPB_cpu_budget (v : Byte) : (s.setPB v).cpu.budget = s.cpu.budget := rfl
@[simp] theorem State.setPB_irqLine (v : Byte) : (s.setPB v).irqLine = s.irqLine := rfl
@[simp] theorem State.setPB_resetReq (v : Byte) : (s.setPB v).resetReq = s.resetReq := rfl
@[simp] theorem State.setPB_bus (v : Byte) : (s.setPB v).bus = s.bus := rfl
@[simp] theorem State.setPB_env (v : Byte) : (s.setPB v).env = s.env := rfl
@[simp] theorem State.setPB_costDraws (v : Byte) : (s.setPB v).costDraws = s.costDraws := rfl

@[simp] theorem State.setPC_cpu_a (v : Word) : (s.setPC v).cpu.a = s.cpu.a := rfl
@[simp] theorem State.setPC_cpu_x (v : Word) : (s.setPC v).cpu.x = s.cpu.x := rfl
@[simp] theorem State.setPC_cpu_y (v : Word) : (s.setPC v).cpu.y = s.cpu.y := rfl
@[simp] theorem State.setPC_cpu_s (v : Word) : (s.setPC v).cpu.s = s.cpu.s := rfl
@[simp] theorem State.setPC_cpu_d (v : Word) : (s.setPC v).cpu.d = s.cpu.d := rfl
@[simp] theorem State.setPC_cpu_db (v : Word) : (s.setPC v).cpu.db = s.cpu.db := rfl
@[simp] theorem State.setPC_cpu_pb (v : Word) : (s.setPC v).cpu.pb = s.cpu.pb := rfl
@[simp] theorem State.setPC_cpu_pc (v : Word) : (s.setPC v).cpu.pc = v := rfl
@[simp] theorem State.setPC_cpu_p (v : Word) : (s.setPC v).cpu.p = s.cpu.p := rfl
@[simp] theorem State.setPC_cpu_e (v : Word) : (s.setPC v).cpu.e = s.cpu.e := rfl
@[simp] theorem State.setPC_cpu_run (v : Word) : (s.setPC v).cpu.run = s.cpu.run := rfl
@[simp] theorem State.setPC_cpu_nmiReq (v : Word) : (s.setPC v).cpu.nmiReq = s.cpu.nmiReq := rfl
@[simp] theorem State.setPC_cpu_budget (v : Word) : (s.setPC v).cpu.budget = s.cpu.budget := rfl
@[simp] theorem State.setPC_irqLine (v : Word) : (s.setPC v).irqLine = s.irqLine := rfl
@[simp] theorem State.setPC_resetReq (v : Word) : (s.setPC v).resetReq = s.resetReq := rfl
@[simp] theorem State.setPC_bus (v : Word) : (s.setPC v).bus = s.bus := rfl
@[simp] theorem State.setPC_env (v : Word) : (s.setPC v).env = s.env := rfl
@[simp] theorem State.setPC_costDraws (v : Word) : (s.setPC v).costDraws = s.costDraws := rfl

@[simp] theorem State.setP_cpu_a (v : Byte) : (s.setP v).cpu.a = s.cpu.a := rfl
@[simp] theorem State.setP_cpu_x (v : Byte) : (s.setP v).cpu.x = s.cpu.x := rfl
@[simp] theorem State.setP_cpu_y (v : Byte) : (s.setP v).cpu.y = s.cpu.y := rfl
@[simp] theorem State.setP_cpu_s (v : Byte) : (s.setP v).cpu.s = s.cpu.s := rfl
@[simp] theorem State.setP_cpu_d (v : Byte) : (s.setP v).cpu.d = s.cpu.d := rfl
@[simp] theorem State.setP_cpu_db (v : Byte) : (s.setP v).cpu.db = s.cpu.db := rfl
@[simp] theorem State.setP_cpu_pb (v : Byte) : (s.setP v).cpu.pb = s.cpu.pb := rfl
@[simp] theorem State.setP_cpu_pc (v : Byte) : (s.setP v).cpu.pc = s.cpu.pc := rfl
@[simp] theorem State.setP_cpu_p (v : Byte) : (s.setP v).cpu.p = v := rfl
@[simp] theorem State.setP_cpu_e (v : Byte) : (s.setP v).cpu.e = s.cpu.e := rfl
@[simp] theorem State.setP_cpu_run (v : Byte) : (s.setP v).cpu.run = s.cpu.run := rfl
@[simp] theorem State.setP_cpu_nmiReq (v : Byte) : (s.setP v).cpu.nmiReq = s.cpu.nmiReq := rfl
@[simp] theorem State.setP_cpu_budget (v : Byte) : (s.setP v).cpu.budget = s.cpu.budget := rfl
@[simp] theorem State.setP_irqLine (v : Byte) : (s.setP v).irqLine = s.irqLine := rfl
@[simp] theorem State.setP_resetReq (v : Byte) : (s.setP v).resetReq = s.resetReq := rfl
@[simp] theorem State.setP_bus (v : Byte) : (s.setP v).bus = s.bus := rfl
@[simp] theorem State.setP_env (v : Byte) : (s.setP v).env = s.env := rfl
@[simp] theorem State.setP_costDraws (v : Byte) : (s.setP v).costDraws = s.costDraws := rfl

@[simp] theorem State.setE_cpu_a (v : Bool) : (s.setE v).cpu.a = s.cpu.a := rfl
@[simp] theorem State.setE_cpu_x (v : Bool) : (s.setE v).cpu.x = s.cpu.x := rfl
@[simp] theorem State.setE_cpu_y (v : Bool) : (s.setE v).cpu.y = s.cpu.y := rfl
@[simp] theorem State.setE_cpu_s (v : Bool) : (s.setE v).cpu.s = s.cpu.s := rfl
@[simp] theorem State.setE_cpu_d (v : Bool) : (s.setE v).cpu.d = s.cpu.d := rfl
@[simp] theorem State.setE_cpu_db (v : Bool) : (s.setE v).cpu.db = s.cpu.db := rfl
@[simp] theorem State.setE_cpu_pb (v : Bool) : (s.setE v).cpu.pb = s.cpu.pb := rfl
@[simp] theorem State.setE_cpu_pc (v : Bool) : (s.setE v).cpu.pc = s.cpu.pc := rfl
@[simp] theorem State.setE_cpu_p (v : Bool) : (s.setE v).cpu.p = s.cpu.p := rfl
@[simp] theorem State.setE_cpu_e (v : Bool) : (s.setE v).cpu.e = v := rfl
@[simp] theorem State.setE_cpu_run (v : Bool) : (s.setE v).cpu.run = s.cpu.run := rfl
@[simp] theorem State.setE_cpu_nmiReq (v : Bool) : (s.setE v).cpu.nmiReq = s.cpu.nmiReq := rfl
@[simp] theorem State.setE_cpu_budget (v : Bool) : (s.setE v).cpu.budget = s.cpu.budget := rfl
@[simp] theorem State.setE_irqLine (v : Bool) : (s.setE v).irqLine = s.irqLine := rfl
@[simp] theorem State.setE_resetReq (v : Bool) : (s.setE v).resetReq = s.resetReq := rfl
@[simp] theorem State.setE_bus (v : Bool) : (s.setE v).bus = s.bus := rfl
@[simp] theorem State.setE_env (v : Bool) : (s.setE v).env = s.env := rfl
@[simp] theorem State.setE_costDraws (v : Bool) : (s.setE v).costDraws = s.costDraws := rfl

@[simp] theorem State.setRun_cpu_a (v : RunState) : (s.setRun v).cpu.a = s.cpu.a := rfl
@[simp] theorem State.setRun_cpu_x (v : RunState) : (s.setRun v).cpu.x = s.cpu.x := rfl
@[simp] theorem State.setRun_cpu_y (v : RunState) : (s.setRun v).cpu.y = s.cpu.y := rfl
@[simp] theorem State.setRun_cpu_s (v : RunState) : (s.setRun v).cpu.s = s.cpu.s := rfl
@[simp] theorem State.setRun_cpu_d (v : RunState) : (s.setRun v).cpu.d = s.cpu.d := rfl
@[simp] theorem State.setRun_cpu_db (v : RunState) : (s.setRun v).cpu.db = s.cpu.db := rfl
@[simp] theorem State.setRun_cpu_pb (v : RunState) : (s.setRun v).cpu.pb = s.cpu.pb := rfl
@[simp] theorem State.setRun_cpu_pc (v : RunState) : (s.setRun v).cpu.pc = s.cpu.pc := rfl
@[simp] theorem State.setRun_cpu_p (v : RunState) : (s.setRun v).cpu.p = s.cpu.p := rfl
@[simp] theorem State.setRun_cpu_e (v : RunState) : (s.setRun v).cpu.e = s.cpu.e := rfl
@[simp] theorem State.setRun_cpu_run (v : RunState) : (s.setRun v).cpu.run = v := rfl
@[simp] theorem State.setRun_cpu_nmiReq (v : RunState) : (s.setRun v).cpu.nmiReq = s.cpu.nmiReq := rfl
@[simp] theorem State.setRun_cpu_budget (v : RunState) : (s.setRun v).cpu.budget = s.cpu.budget := rfl
@[simp] theorem State.setRun_irqLine (v : RunState) : (s.setRun v).irqLine = s.irqLine := rfl
@[simp] theorem State.setRun_resetReq (v : RunState) : (s.setRun v).resetReq = s.resetReq := rfl
@[simp] theorem State.setRun_bus (v : RunState) : (s.setRun v).bus = s.bus := rfl
@[simp] theorem State.setRun_env (v : RunState) : (s.setRun v).env = s.env := rfl
@[simp] theorem State.setRun_costDraws (v : RunState) : (s.setRun v).costDraws = s.costDraws := rfl

@[simp] theorem State.setNmiReq_cpu_a (v : Bool) : (s.setNmiReq v).cpu.a = s.cpu.a := rfl
@[simp] theorem State.setNmiReq_cpu_x (v : Bool) : (s.setNmiReq v).cpu.x = s.cpu.x := rfl
@[simp] theorem State.setNmiReq_cpu_y (v : Bool) : (s.setNmiReq v).cpu.y = s.cpu.y := rfl
@[simp] theorem State.setNmiReq_cpu_s (v : Bool) : (s.setNmiReq v).cpu.s = s.cpu.s := rfl
@[simp] theorem State.setNmiReq_cpu_d (v : Bool) : (s.setNmiReq v).cpu.d = s.cpu.d := rfl
@[simp] theorem State.setNmiReq_cpu_db (v : Bool) : (s.setNmiReq v).cpu.db = s.cpu.db := rfl
@[simp] theorem State.setNmiReq_cpu_pb (v : Bool) : (s.setNmiReq v).cpu.pb = s.cpu.pb := rfl
@[simp] theorem State.setNmiReq_cpu_pc (v : Bool) : (s.setNmiReq v).cpu.pc = s.cpu.pc := rfl
@[simp] theorem State.setNmiReq_cpu_p (v : Bool) : (s.setNmiReq v).cpu.p = s.cpu.p := rfl
@[simp] theorem State.setNmiReq_cpu_e (v : Bool) : (s.setNmiReq v).cpu.e = s.cpu.e := rfl
@[simp] theorem State.setNmiReq_cpu_run (v : Bool) : (s.setNmiReq v).cpu.run = s.cpu.run := rfl
@[simp] theorem State.setNmiReq_cpu_nmiReq (v : Bool) : (s.setNmiReq v).cpu.nmiReq = v := rfl
@[simp] theorem State.setNmiReq_cpu_budget (v : Bool) : (s.setNmiReq v).cpu.budget = s.cpu.budget := rfl
@[simp] theorem State.setNmiReq_irqLine (v : Bool) : (s.setNmiReq v).irqLine = s.irqLine := rfl
@[simp] theorem State.setNmiReq_resetReq (v : Bool) : (s.setNmiReq v).resetReq = s.resetReq := rfl
@[simp] theorem State.setNmiReq_bus (v : Bool) : (s.setNmiReq v).bus = s.bus := rfl
@[simp] theorem State.setNmiReq_env (v : Bool) : (s.setNmiReq v).env = s.env := rfl
@[simp] theorem State.setNmiReq_costDraws (v : Bool) : (s.setNmiReq v).costDraws = s.costDraws := rfl

@[simp] theorem State.setBudget_cpu_a (v : Nat) : (s.setBudget v).cpu.a = s.cpu.a := rfl
@[simp] theorem State.setBudget_cpu_x (v : Nat) : (s.setBudget v).cpu.x = s.cpu.x := rfl
@[simp] theorem State.setBudget_cpu_y (v : Nat) : (s.setBudget v).cpu.y = s.cpu.y := rfl
@[simp] theorem State.setBudget_cpu_s (v : Nat) : (s.setBudget v).cpu.s = s.cpu.s := rfl
@[simp] theorem State.setBudget_cpu_d (v : Nat) : (s.setBudget v).cpu.d = s.cpu.d := rfl
@[simp] theorem State.setBudget_cpu_db (v : Nat) : (s.setBudget v).cpu.db = s.cpu.db := rfl
@[simp] theorem State.setBudget_cpu_pb (v : Nat) : (s.setBudget v).cpu.pb = s.cpu.pb := rfl
@[simp] theorem State.setBudget_cpu_pc (v : Nat) : (s.setBudget v).cpu.pc = s.cpu.pc := rfl
@[simp] theorem State.setBudget_cpu_p (v : Nat) : (s.setBudget v).cpu.p = s.cpu.p := rfl
@[simp] theorem State.setBudget_cpu_e (v : Nat) : (s.setBudget v).cpu.e = s.cpu.e := rfl
@[simp] theorem State.setBudget_cpu_run (v : Nat) : (s.setBudget v).cpu.run = s.cpu.run := rfl
@[simp] theorem State.setBudget_cpu_nmiReq (v : Nat) : (s.setBudget v).cpu.nmiReq = s.cpu.nmiReq := rfl
@[simp] theorem State.setBudget_cpu_budget (v : Nat) : (s.setBudget v).cpu.budget = v := rfl
@[simp] theorem State.setBudget_irqLine (v : Nat) : (s.setBudget v).irqLine = s.irqLine := rfl
@[simp] theorem State.setBudget_resetReq (v : Nat) : (s.setBudget v).resetReq = s.resetReq := rfl
@[simp] theorem State.setBudget_bus (v : Nat) : (s.setBudget v).bus = s.bus := rfl
@[simp] theorem State.setBudget_env (v : Nat) : (s.setBudget v).env = s.env := rfl
@[simp] theorem State.setBudget_costDraws (v : Nat) : (s.setBudget v).costDraws = s.costDraws := rfl

@[simp] theorem State.setBus_cpu_a (v : Bus) : (s.setBus v).cpu.a = s.cpu.a := rfl
@[simp] theorem State.setBus_cpu_x (v : Bus) : (s.setBus v).cpu.x = s.cpu.x := rfl
@[simp] theorem State.setBus_cpu_y (v : Bus) : (s.setBus v).cpu.y = s.cpu.y := rfl
@[simp] theorem State.setBus_cpu_s (v : Bus) : (s.setBus v).cpu.s = s.cpu.s := rfl
@[simp] theorem State.setBus_cpu_d (v : Bus) : (s.setBus v).cpu.d = s.cpu.d := rfl
@[simp] theorem State.setBus_cpu_db (v : Bus) : (s.setBus v).cpu.db = s.cpu.db := rfl
@[simp] theorem State.setBus_cpu_pb (v : Bus) : (s.setBus v).cpu.pb = s.cpu.pb := rfl
@[simp] theorem State.setBus_cpu_pc (v : Bus) : (s.setBus v).cpu.pc = s.cpu.pc := rfl
@[simp] theorem State.setBus_cpu_p (v : Bus) : (s.setBus v).cpu.p = s.cpu.p := rfl
@[simp] theorem State.setBus_cpu_e (v : Bus) : (s.setBus v).cpu.e = s.cpu.e := rfl
@[simp] theorem State.setBus_cpu_run (v : Bus) : (s.setBus v).cpu.run = s.cpu.run := rfl
@[simp] theorem State.setBus_cpu_nmiReq (v : Bus) : (s.setBus v).cpu.nmiReq = s.cpu.nmiReq := rfl
@[simp] theorem State.setBus_cpu_budget (v : Bus) : (s.setBus v).cpu.budget = s.cpu.budget := rfl
@[simp] theorem State.setBus_irqLine (v : Bus) : (s.setBus v).irqLine = s.irqLine := rfl
@[simp] theorem State.setBus_resetReq (v : Bus) : (s.setBus v).resetReq = s.resetReq := rfl
@[simp] theorem State.setBus_bus (v : Bus) : (s.setBus v).bus = v := rfl
@[simp] theorem State.setBus_env (v : Bus) : (s.setBus v).env = s.env := rfl
@[simp] theorem State.setBus_costDraws (v : Bus) : (s.setBus v).costDraws = s.costDraws := rfl
@[simp] theorem State.setBus_cpu (v : Bus) : (s.setBus v).cpu = s.cpu := rfl

@[simp] theorem State.setBus_self : s.setBus s.bus = s := rfl

end Sys2Proof.Machine
end

