-- ==== Sys2Proof/Laws/Flags.lean ====
section
/-! SUPPORT. The laws of the status byte's flags, of values cut to a width, and of SetNZ. -/

namespace Sys2Proof.Machine

theorem flagGet_flagSet_self (p : Byte) (f : Flag) (v : Bool) : flagGet (flagSet p f v) f = v := by
  have hf : f.bit < 8 := by cases f <;> decide
  unfold flagGet flagSet
  cases v <;> simp [hf]

theorem flagGet_flagSet_of_ne (p : Byte) {f g : Flag} (v : Bool) (h : g ≠ f) :
    flagGet (flagSet p f v) g = flagGet p g := by
  unfold flagGet flagSet
  cases v <;> cases f <;> cases g <;> simp_all [Flag.bit]

/-- A flag of a byte after one flag is written. -/
@[simp] theorem flagGet_flagSet (p : Byte) (f g : Flag) (v : Bool) :
    flagGet (flagSet p f v) g = if g = f then v else flagGet p g := by
  split
  · rename_i h; rw [h, flagGet_flagSet_self]
  · rename_i h; rw [flagGet_flagSet_of_ne p v h]

/-- Two status bytes with the same eight flags are equal. -/
theorem byte_ext_flags {p q : Byte} (h : ∀ f : Flag, flagGet p f = flagGet q f) : p = q := by
  have h0 := h .c
  have h1 := h .z
  have h2 := h .i
  have h3 := h .d
  have h4 := h .x
  have h5 := h .m
  have h6 := h .v
  have h7 := h .n
  simp only [flagGet, Flag.bit] at h0 h1 h2 h3 h4 h5 h6 h7
  refine BitVec.eq_of_getLsbD_eq fun i hi => ?_
  obtain rfl | rfl | rfl | rfl | rfl | rfl | rfl | rfl : i = 0 ∨ i = 1 ∨ i = 2 ∨ i = 3 ∨ i = 4 ∨ i = 5 ∨ i = 6 ∨ i = 7 := by
    omega
  all_goals assumption

@[simp] theorem flagGet_setNZ (w : Width) (v : Word) (p : Byte) (f : Flag) :
    flagGet (setNZ w v p) f = if f = .z then w.mask v == 0 else if f = .n then w.msb v else flagGet p f := by
  simp [setNZ]

/-- N of a value, Z of a value, and no other flag (R9). -/
theorem setNZ_other (w : Width) (v : Word) (p : Byte) {f : Flag} (hn : f ≠ .n) (hz : f ≠ .z) :
    flagGet (setNZ w v p) f = flagGet p f := by
  simp [hn, hz]

theorem Width.mask_toNat (w : Width) (v : Word) : (w.mask v).toNat = v.toNat % 2 ^ w.bits := by
  cases w
  · show (v &&& 0x00FF).toNat = v.toNat % 2 ^ 8
    rw [BitVec.toNat_and]
    exact Nat.and_two_pow_sub_one_eq_mod _ 8
  · exact (Nat.mod_eq_of_lt v.isLt).symm

theorem hiByte_toNat (v : Word) : (hiByte v).toNat = v.toNat / 256 := by
  have := v.isLt
  simp only [hiByte, BitVec.extractLsb'_toNat, Nat.shiftRight_eq_div_pow]
  omega

theorem loByte_toNat (v : Word) : (loByte v).toNat = v.toNat % 256 := by
  simp only [loByte, BitVec.extractLsb'_toNat, Nat.shiftRight_zero]

theorem Width.mask_lt (w : Width) (v : Word) : (w.mask v).toNat < 2 ^ w.bits := by
  rw [Width.mask_toNat]; exact Nat.mod_lt _ (Nat.two_pow_pos _)

/-- A value that fits its width is its own cut. -/
theorem Width.mask_of_lt {w : Width} {v : Word} (h : v.toNat < 2 ^ w.bits) : w.mask v = v := by
  apply BitVec.eq_of_toNat_eq
  rw [Width.mask_toNat, Nat.mod_eq_of_lt h]

@[simp] theorem Width.mask_mask (w : Width) (v : Word) : w.mask (w.mask v) = w.mask v :=
  Width.mask_of_lt (Width.mask_lt w v)

/-- A high byte of zero says that the value fits in 8 bits. -/
theorem toNat_lt_of_hiByte_zero {v : Word} (h : hiByte v = 0x00) : v.toNat < 2 ^ 8 := by
  have h' : (hiByte v).toNat = 0 := by rw [h]; rfl
  rw [hiByte_toNat] at h'
  omega

theorem hiByte_zero_of_lt {v : Word} (h : v.toNat < 2 ^ 8) : hiByte v = 0x00 := by
  apply BitVec.eq_of_toNat_eq
  rw [hiByte_toNat]
  show _ = 0
  omega

/-- An 8-bit cut has a zero high byte. -/
theorem hiByte_mask_w8 (v : Word) : hiByte (Width.w8.mask v) = 0x00 := hiByte_zero_of_lt (Width.mask_lt .w8 v)

end Sys2Proof.Machine
end

