-- ==== Sys2Proof/Laws/Memory.lean ====
section
/-! SUPPORT. The laws of the sparse memory: read after write, canonical form kept, equal reads give equal memories. -/

namespace Sys2Proof.Machine

theorem Memory.read_cons_self (k : Nat) (v : Byte) (m : Memory) : Memory.read ((k, v) :: m) k = v := by
  simp [Memory.read]

theorem Memory.read_cons_of_ne {k k' : Nat} (v : Byte) (m : Memory) (h : k' ≠ k) :
    Memory.read ((k, v) :: m) k' = Memory.read m k' := by
  simp [Memory.read, Ne.symm h]

/-- A cell below every listed one is not listed. -/
theorem Memory.read_eq_unlisted {m : Memory} {k : Nat} (h : ∀ c ∈ m, k < c.1) :
    Memory.read m k = Config.unlistedByte := by
  induction m with
  | nil => rfl
  | cons c rest ih =>
    have hc := h c (by simp)
    simp only [Memory.read, if_neg (Nat.ne_of_gt hc)]
    exact ih fun d hd => h d (by simp [hd])

/-- A write leaves every other cell as it was. -/
theorem Memory.read_write_of_ne (m : Memory) {k k' : Nat} (v : Byte) (h : k' ≠ k) :
    Memory.read (Memory.write m k v) k' = Memory.read m k' := by
  induction m with
  | nil =>
    unfold Memory.write
    split
    · rfl
    · exact Memory.read_cons_of_ne v [] h
  | cons c rest ih =>
    unfold Memory.write
    split
    · split
      · rfl
      · exact Memory.read_cons_of_ne v _ h
    · split
      · rename_i hc
        have hne : c.1 ≠ k' := fun e => h (e ▸ hc)
        split <;> simp [Memory.read, hne, Ne.symm h]
      · simp only [Memory.read, ih]

/-- A read after a write to the same cell gives the byte written. -/
theorem Memory.read_write_self {m : Memory} (hm : Memory.wf m) (k : Nat) (v : Byte) :
    Memory.read (Memory.write m k v) k = v := by
  induction m with
  | nil =>
    unfold Memory.write
    split
    · rename_i hv; simp [Memory.read, hv]
    · simp [Memory.read]
  | cons c rest ih =>
    obtain ⟨hs, hb⟩ := hm
    obtain ⟨hlt, hs'⟩ := List.pairwise_cons.mp hs
    unfold Memory.write
    split
    · rename_i hk
      split
      · rename_i hv
        rw [hv]
        refine Memory.read_eq_unlisted fun d hd => ?_
        rcases List.mem_cons.mp hd with rfl | hd
        · exact hk
        · exact Nat.lt_trans hk (hlt d hd)
      · simp [Memory.read]
    · split
      · rename_i hc
        split
        · rename_i hv
          rw [hv, ← hc]
          exact Memory.read_eq_unlisted hlt
        · simp [Memory.read]
      · rename_i hc
        simp only [Memory.read, if_neg hc]
        exact ih ⟨hs', fun d hd => hb d (by simp [hd])⟩

/-- The cells of a written memory are old ones or the one written. -/
theorem Memory.mem_write {m : Memory} {k : Nat} {v : Byte} {c : Host.Cell} (h : c ∈ Memory.write m k v) :
    c ∈ m ∨ c = (k, v) ∧ v ≠ Config.unlistedByte := by
  induction m with
  | nil =>
    unfold Memory.write at h
    split at h
    · exact absurd h (by simp)
    · exact .inr ⟨by simpa using h, ‹_›⟩
  | cons d rest ih =>
    unfold Memory.write at h
    split at h
    · split at h
      · exact .inl h
      · rcases List.mem_cons.mp h with rfl | h
        · exact .inr ⟨rfl, ‹_›⟩
        · exact .inl h
    · split at h
      · split at h
        · exact .inl (by simp [h])
        · rcases List.mem_cons.mp h with rfl | h
          · exact .inr ⟨rfl, ‹_›⟩
          · exact .inl (by simp [h])
      · rcases List.mem_cons.mp h with rfl | h
        · exact .inl (by simp)
        · exact (ih h).imp (fun h => by simp [h]) id

/-- Every write to a cell of the 24-bit space keeps the canonical form. -/
theorem Memory.wf_write {m : Memory} (hm : Memory.wf m) {k : Nat} (hk : k < 2 ^ 24) (v : Byte) :
    Memory.wf (Memory.write m k v) := by
  refine ⟨?_, fun c hc => ?_⟩
  · replace hm := hm.1
    induction m with
    | nil =>
      unfold Memory.write
      split <;> simp
    | cons c rest ih =>
      obtain ⟨hlt, hs⟩ := List.pairwise_cons.mp hm
      unfold Memory.write
      split
      · rename_i hkc
        split
        · exact hm
        · refine List.pairwise_cons.mpr ⟨fun d hd => ?_, hm⟩
          rcases List.mem_cons.mp hd with rfl | hd
          · exact hkc
          · exact Nat.lt_trans hkc (hlt d hd)
      · split
        · rename_i hck
          split
          · exact hs
          · exact List.pairwise_cons.mpr ⟨fun d hd => hck ▸ hlt d hd, hs⟩
        · refine List.pairwise_cons.mpr ⟨fun d hd => ?_, ih hs⟩
          rcases Memory.mem_write hd with hd | ⟨rfl, -⟩
          · exact hlt d hd
          · show c.1 < k
            omega
  · rcases Memory.mem_write hc with hc | ⟨rfl, hv⟩
    · exact hm.2 c hc
    · exact ⟨hk, hv⟩

theorem Memory.wf_nil : Memory.wf [] := ⟨List.Pairwise.nil, fun _ h => absurd h (by simp)⟩

/-- Two canonical memories that read the same everywhere are the same list. -/
theorem Memory.eq_of_read_eq : ∀ {m m' : Memory}, Memory.wf m → Memory.wf m' →
    (∀ k, Memory.read m k = Memory.read m' k) → m = m'
  | [], [], _, _, _ => rfl
  | [], (k, v) :: rest, _, h', h => by
    have := h k
    rw [Memory.read_cons_self] at this
    exact absurd this.symm (h'.2 (k, v) (by simp)).2
  | (k, v) :: rest, [], h', _, h => by
    have := h k
    rw [Memory.read_cons_self] at this
    exact absurd this (h'.2 (k, v) (by simp)).2
  | (k, v) :: rest, (k', v') :: rest', hm, hm', h => by
    obtain ⟨hlt, hs⟩ := List.pairwise_cons.mp hm.1
    obtain ⟨hlt', hs'⟩ := List.pairwise_cons.mp hm'.1
    have hkk : k = k' := by
      rcases Nat.lt_trichotomy k k' with hl | he | hg
      · have := h k
        rw [Memory.read_cons_self, Memory.read_eq_unlisted] at this
        · exact absurd this (hm.2 (k, v) (by simp)).2
        · intro d hd
          rcases List.mem_cons.mp hd with rfl | hd
          · exact hl
          · exact Nat.lt_trans hl (hlt' d hd)
      · exact he
      · have := h k'
        rw [Memory.read_cons_self, Memory.read_eq_unlisted] at this
        · exact absurd this.symm (hm'.2 (k', v') (by simp)).2
        · intro d hd
          rcases List.mem_cons.mp hd with rfl | hd
          · exact hg
          · exact Nat.lt_trans hg (hlt d hd)
    subst hkk
    have hv : v = v' := by simpa [Memory.read_cons_self] using h k
    subst hv
    have hr : rest = rest' := by
      refine Memory.eq_of_read_eq ⟨hs, fun d hd => hm.2 d (by simp [hd])⟩ ⟨hs', fun d hd => hm'.2 d (by simp [hd])⟩ fun j => ?_
      by_cases hj : j = k
      · subst hj
        rw [Memory.read_eq_unlisted hlt, Memory.read_eq_unlisted hlt']
      · simpa [Memory.read_cons_of_ne, hj] using h j
    rw [hr]

end Sys2Proof.Machine
end

