-- ==== Sys2Proof/Laws/Bus.lean ====
section
/-! SUPPORT. The laws of the Bus: what a read can change, what a write can change, the home cells of addresses. -/

namespace Sys2Proof.Machine

/-- Every target's home lies in the 24-bit space. -/
def Target.inSpace : Target → Prop
  | .wram k => k < 2 ^ 24
  | .sram k => k < 2 ^ 24
  | .rom k => k < 2 ^ 24
  | _ => True

theorem sramTarget_inSpace {home : Nat → Nat} {bound n i : Nat} (hb : ∀ j < bound, home j < 2 ^ 24) (hi : i < bound) :
    (sramTarget home n i).inSpace := by
  unfold sramTarget
  split
  · exact trivial
  · exact hb _ (Nat.lt_of_le_of_lt (Nat.mod_le _ _) hi)

theorem loRomSramHome_lt (j : Nat) (h : j < 0x80000) : loRomSramHome j < 2 ^ 24 := by
  unfold loRomSramHome
  split <;> omega

theorem hiRomSramHome_lt (j : Nat) (h : j < 0x40000) : hiRomSramHome j < 2 ^ 24 := by
  unfold hiRomSramHome
  omega

theorem romTarget_inSpace {home : Nat → Nat} {bound n i : Nat} (hb : ∀ j < bound, home j < 2 ^ 24) (hi : i < bound) :
    (romTarget home n i).inSpace := by
  unfold romTarget
  split
  · exact trivial
  · exact hb _ (Nat.lt_of_le_of_lt (Nat.mod_le _ _) hi)

theorem loRomHome_lt (j : Nat) (h : j < 0x400000) : loRomHome j < 2 ^ 24 := by
  unfold loRomHome
  split <;> omega

theorem hiRomHome_lt (j : Nat) (h : j < 0x800000) : hiRomHome j < 2 ^ 24 := by
  unfold hiRomHome
  repeat' split
  all_goals omega

theorem loRomTarget_inSpace (c : BusParams) {bank off : Nat} (ho : off < 0x10000) : (loRomTarget c bank off).inSpace := by
  unfold loRomTarget
  split
  · exact romTarget_inSpace loRomHome_lt (by unfold loRomIndex; omega)
  · split
    · exact sramTarget_inSpace loRomSramHome_lt (by omega)
    · exact trivial

theorem hiRomTarget_inSpace {index : Nat → Nat → Nat} (c : BusParams) {bank off : Nat} (hx : index bank off < 0x800000)
    (hb : bank < 0x100) (ho : off < 0x10000) : (hiRomTarget index c bank off).inSpace := by
  unfold hiRomTarget
  split
  · exact romTarget_inSpace hiRomHome_lt hx
  · split
    · exact romTarget_inSpace hiRomHome_lt hx
    · split
      · exact sramTarget_inSpace hiRomSramHome_lt (by omega)
      · exact trivial

theorem cartTarget_inSpace (c : BusParams) {bank off : Nat} (hb : bank < 0x100) (ho : off < 0x10000) :
    (cartTarget c bank off).inSpace := by
  unfold cartTarget
  split
  · exact loRomTarget_inSpace c ho
  · exact hiRomTarget_inSpace c (by unfold hiRomIndex; omega) hb ho
  · exact hiRomTarget_inSpace c (by unfold exHiRomIndex; split <;> omega) hb ho

theorem systemTarget_inSpace (c : BusParams) {bank off : Nat} (hb : bank < 0x100) (ho : off < 0x10000) :
    (systemTarget c bank off).inSpace := by
  unfold systemTarget
  repeat' split
  all_goals first | exact cartTarget_inSpace c hb ho | exact trivial | (show _ < _; omega)

theorem consoleTarget_inSpace (c : BusParams) (a : Addr) : (consoleTarget c a).inSpace := by
  have ha := a.isLt
  have hb : a.toNat / 0x10000 < 0x100 := by omega
  have ho : a.toNat % 0x10000 < 0x10000 := by omega
  unfold consoleTarget
  simp only
  split
  · exact ha
  · split
    · exact systemTarget_inSpace c hb ho
    · exact cartTarget_inSpace c hb ho

theorem Target.further_inSpace (t : Target) (n : Nat) : (t.further n).inSpace := by
  cases t <;> first | exact Nat.mod_lt _ (by decide) | exact trivial

theorem decodeAddr_inSpace (c : BusParams) (a : Addr) : (decodeAddr c a).inSpace := by
  unfold decodeAddr
  split
  · exact Target.further_inSpace _ _
  · exact consoleTarget_inSpace c a

/-- An address that no region holds is answered by the map of R70. -/
theorem decodeAddr_eq_consoleTarget {c : BusParams} {a : Addr} (h : ∀ r ∈ c.map, r.holds a = false) :
    decodeAddr c a = consoleTarget c a := by
  unfold decodeAddr
  rw [List.find?_eq_none.mpr (by simpa using h)]

/-- An address that a region holds, and none before it, is answered by that region. -/
theorem decodeAddr_eq_answers {c : BusParams} {a : Addr} {before after : List Region} {r : Region}
    (hm : c.map = before ++ r :: after) (hb : ∀ q ∈ before, q.holds a = false) (hr : r.holds a = true) :
    decodeAddr c a = r.answers a := by
  unfold decodeAddr
  rw [hm, List.find?_append, List.find?_eq_none.mpr (by simpa using hb)]
  simp [hr]

theorem cellOf_lt {c : BusParams} {a : Addr} {k : Nat} (h : cellOf c a = some k) : k < 2 ^ 24 := by
  have hs := decodeAddr_inSpace c a
  unfold cellOf at h
  split at h <;> simp_all [Target.inSpace]

/-- A cell that a store changes is a cell. -/
theorem cellOf_of_ramCellOf {c : BusParams} {a : Addr} {k : Nat} (h : ramCellOf c a = some k) : cellOf c a = some k := by
  unfold ramCellOf at h
  unfold cellOf
  split at h <;> simp_all

/-- A store to a cell starts no GDMA. -/
theorem not_gdma_of_ramCellOf {c : BusParams} {a : Addr} {k : Nat} (h : ramCellOf c a = some k) :
    isGdmaTrigger c a = false := by
  unfold ramCellOf at h
  unfold isGdmaTrigger
  split at h <;> simp_all

/-! What a read can change. -/

/-- A read changes at most the units' record, the NMI flag and the controller's shift register. -/
theorem Bus.read_spec (b : Bus) (a : Addr) :
    ∃ n f w, (b.read a).2 = { b with unitLog := n, nmiFlag := f, padShift := w } := by
  unfold Bus.read Bus.readTarget
  simp only
  split
  case h_5 => unfold Bus.readController; simp only; split <;> exact ⟨_, _, _, rfl⟩
  case h_6 => unfold Bus.readReg; repeat' split
              all_goals exact ⟨_, _, _, rfl⟩
  all_goals exact ⟨_, _, _, rfl⟩

@[simp] theorem Bus.read_mem (b : Bus) (a : Addr) : (b.read a).2.mem = b.mem := by
  obtain ⟨_, _, _, h⟩ := b.read_spec a
  rw [h]

@[simp] theorem Bus.read_params (b : Bus) (a : Addr) : (b.read a).2.params = b.params := by
  obtain ⟨_, _, _, h⟩ := b.read_spec a
  rw [h]

@[simp] theorem Bus.read_patches (b : Bus) (a : Addr) : (b.read a).2.patches = b.patches := by
  obtain ⟨_, _, _, h⟩ := b.read_spec a
  rw [h]

/-- A read of a cell with no cheat patch gives its byte and changes nothing. -/
theorem Bus.read_cell {b : Bus} {a : Addr} {k : Nat} (hp : b.patches = []) (h : cellOf b.params a = some k) :
    b.read a = (b.mem.read k, b) := by
  unfold cellOf at h
  unfold Bus.read Bus.readTarget patched
  split at h <;> simp_all

@[simp] theorem Bus.read16_mem (b : Bus) (a : Addr) : (b.read16 a).2.mem = b.mem := by simp [Bus.read16]
@[simp] theorem Bus.read16_params (b : Bus) (a : Addr) : (b.read16 a).2.params = b.params := by simp [Bus.read16]
@[simp] theorem Bus.read16_patches (b : Bus) (a : Addr) : (b.read16 a).2.patches = b.patches := by simp [Bus.read16]
@[simp] theorem Bus.read24_mem (b : Bus) (a : Addr) : (b.read24 a).2.mem = b.mem := by simp [Bus.read24]
@[simp] theorem Bus.read24_params (b : Bus) (a : Addr) : (b.read24 a).2.params = b.params := by simp [Bus.read24]
@[simp] theorem Bus.read24_patches (b : Bus) (a : Addr) : (b.read24 a).2.patches = b.patches := by simp [Bus.read24]

@[simp] theorem Bus.readW_mem (b : Bus) (w : Width) (a : Addr) : (b.readW w a).2.mem = b.mem := by
  cases w <;> simp [Bus.readW]

@[simp] theorem Bus.readW_params (b : Bus) (w : Width) (a : Addr) : (b.readW w a).2.params = b.params := by
  cases w <;> simp [Bus.readW]

@[simp] theorem Bus.readW_patches (b : Bus) (w : Width) (a : Addr) : (b.readW w a).2.patches = b.patches := by
  cases w <;> simp [Bus.readW]

/-- A value read at a width fits it. -/
theorem Bus.readW_lt (b : Bus) (w : Width) (a : Addr) : (b.readW w a).1.toNat < 2 ^ w.bits := by
  cases w
  · have := (b.read a).1.isLt
    simp only [Bus.readW, BitVec.toNat_setWidth, Width.bits]
    omega
  · exact (b.readW .w16 a).1.isLt

/-! What a write can change. -/

@[simp] theorem Bus.writeTarget_params (b : Bus) (a : Addr) (v : Byte) (t : Target) : (b.writeTarget a v t).params = b.params := by
  unfold Bus.writeTarget
  split
  case h_6 => unfold Bus.writeReg Bus.multiply Bus.divide; repeat' split
              all_goals rfl
  all_goals rfl

@[simp] theorem Bus.writeTarget_patches (b : Bus) (a : Addr) (v : Byte) (t : Target) : (b.writeTarget a v t).patches = b.patches := by
  unfold Bus.writeTarget
  split
  case h_6 => unfold Bus.writeReg Bus.multiply Bus.divide; repeat' split
              all_goals rfl
  all_goals rfl

/-- A write changes memory in the target's cell only. -/
theorem Bus.writeTarget_mem (b : Bus) (a : Addr) (v : Byte) (t : Target) :
    (b.writeTarget a v t).mem =
      match t with
      | .wram k => b.mem.write k v
      | .sram k => b.mem.write k v
      | _ => b.mem := by
  unfold Bus.writeTarget
  cases t
  case cpuReg => simp only; unfold Bus.writeReg Bus.multiply Bus.divide; repeat' split
                 all_goals rfl
  all_goals rfl

theorem Bus.writeTarget_wf {b : Bus} (h : Memory.wf b.mem) (a : Addr) (v : Byte) {t : Target} (ht : t.inSpace) :
    Memory.wf (b.writeTarget a v t).mem := by
  rw [Bus.writeTarget_mem]
  cases t
  case wram => exact Memory.wf_write h ht v
  case sram => exact Memory.wf_write h ht v
  all_goals exact h

/-- A property of the Bus that every access keeps is kept by GDMA. -/
theorem Bus.gdma_induct {P : Bus → Prop} {b : Bus} (a : Addr) (v : Byte) (h : P b) (ht : ∀ b ev, P b → P (b.tell ev))
    (ha : ∀ b x, P b → P (b.gdmaAccess x)) : P (b.gdma a v) := by
  have h' := ht b (.write a v) h
  unfold Bus.gdma
  generalize b.tell (.write a v) = b' at h'
  simp only
  split
  · exact h'
  · generalize Config.gdmaAccesses b'.unitLog = l
    induction l generalizing b' with
    | nil => exact h'
    | cons x rest ih => exact ih _ (ha _ x h')

@[simp] theorem Bus.gdma_params (b : Bus) (a : Addr) (v : Byte) : (b.gdma a v).params = b.params := by
  refine Bus.gdma_induct (P := fun b' => b'.params = b.params) a v rfl (fun _ _ h => h) fun b' x h => ?_
  cases x <;> simp [Bus.gdmaAccess, Bus.gdmaWrite, h]

@[simp] theorem Bus.gdma_patches (b : Bus) (a : Addr) (v : Byte) : (b.gdma a v).patches = b.patches := by
  refine Bus.gdma_induct (P := fun b' => b'.patches = b.patches) a v rfl (fun _ _ h => h) fun b' x h => ?_
  cases x <;> simp [Bus.gdmaAccess, Bus.gdmaWrite, h]

theorem Bus.gdma_wf {b : Bus} (h : Memory.wf b.mem) (a : Addr) (v : Byte) : Memory.wf (b.gdma a v).mem := by
  refine Bus.gdma_induct (P := fun b' => Memory.wf b'.mem) a v h (fun _ _ h => h) fun b' x h => ?_
  cases x
  · simpa [Bus.gdmaAccess] using h
  · exact Bus.writeTarget_wf h _ _ (decodeAddr_inSpace _ _)
  · exact Bus.writeTarget_wf (by simpa using h) _ _ (decodeAddr_inSpace _ _)

@[simp] theorem Bus.write_params (b : Bus) (a : Addr) (v : Byte) : (b.write a v).params = b.params := by
  unfold Bus.write; split <;> simp

@[simp] theorem Bus.write_patches (b : Bus) (a : Addr) (v : Byte) : (b.write a v).patches = b.patches := by
  unfold Bus.write; split <;> simp

/-- Every write keeps the canonical form. -/
theorem Bus.write_wf {b : Bus} (h : Memory.wf b.mem) (a : Addr) (v : Byte) : Memory.wf (b.write a v).mem := by
  unfold Bus.write
  split
  · exact Bus.gdma_wf h a v
  · exact Bus.writeTarget_wf h a v (decodeAddr_inSpace _ _)

/-- A write to a cell of RAM is a write of that cell and of nothing else. -/
theorem Bus.write_ram {b : Bus} {a : Addr} {k : Nat} (v : Byte) (h : ramCellOf b.params a = some k) :
    b.write a v = { b with mem := b.mem.write k v } := by
  have hg := not_gdma_of_ramCellOf h
  unfold ramCellOf at h
  unfold Bus.write Bus.writeTarget
  split at h <;> simp_all

/-- A write that starts no GDMA and names no cell of RAM leaves memory as it was. -/
theorem Bus.write_mem_of_not_ram {b : Bus} {a : Addr} (v : Byte) (hg : isGdmaTrigger b.params a = false)
    (h : ramCellOf b.params a = none) : (b.write a v).mem = b.mem := by
  unfold ramCellOf at h
  unfold Bus.write
  rw [if_neg (by simp [hg]), Bus.writeTarget_mem]
  split at h <;> simp_all

/-- A write that starts no GDMA leaves every cell but its own as it was. -/
theorem Bus.write_read_of_ne {b : Bus} {a : Addr} (v : Byte) {k : Nat} (hg : isGdmaTrigger b.params a = false)
    (h : ramCellOf b.params a ≠ some k) : (b.write a v).mem.read k = b.mem.read k := by
  cases hr : ramCellOf b.params a with
  | none => rw [Bus.write_mem_of_not_ram v hg hr]
  | some j =>
    rw [Bus.write_ram v hr]
    exact Memory.read_write_of_ne _ v fun e => h (by rw [hr, e])

/-- A cell of RAM reads back the byte written to it. -/
theorem Bus.write_read_self {b : Bus} (hw : Memory.wf b.mem) {a : Addr} (v : Byte) {k : Nat}
    (h : ramCellOf b.params a = some k) : (b.write a v).mem.read k = v := by
  rw [Bus.write_ram v h]
  exact Memory.read_write_self hw k v

@[simp] theorem Bus.write16_params (b : Bus) (a : Addr) (v : Word) : (b.write16 a v).params = b.params := by simp [Bus.write16]
@[simp] theorem Bus.write16_patches (b : Bus) (a : Addr) (v : Word) : (b.write16 a v).patches = b.patches := by
  simp [Bus.write16]

@[simp] theorem Bus.writeW_params (b : Bus) (w : Width) (a : Addr) (v : Word) : (b.writeW w a v).params = b.params := by
  cases w <;> simp [Bus.writeW]

@[simp] theorem Bus.writeW_patches (b : Bus) (w : Width) (a : Addr) (v : Word) :
    (b.writeW w a v).patches = b.patches := by
  cases w <;> simp [Bus.writeW]

theorem Bus.writeW_wf {b : Bus} (h : Memory.wf b.mem) (w : Width) (a : Addr) (v : Word) :
    Memory.wf (b.writeW w a v).mem := by
  cases w
  · exact Bus.write_wf h _ _
  · exact Bus.write_wf (Bus.write_wf h _ _) _ _

theorem Bus.place_wf {b : Bus} (h : Memory.wf b.mem) (a : Addr) (v : Byte) : Memory.wf (b.place a v).mem := by
  unfold Bus.place
  split
  · rename_i k hk
    exact Memory.wf_write h (cellOf_lt hk) v
  · exact h

/-- The first byte of an access is at its own address. -/
theorem inBank_zero (a : Addr) : inBank a 0 = a := by
  apply BitVec.eq_of_toNat_eq
  have := a.isLt
  simp only [inBank, mkAddr, bankOf, offOf, BitVec.toNat_append, BitVec.extractLsb'_toNat, BitVec.toNat_add,
    BitVec.toNat_ofNat, Nat.shiftRight_eq_div_pow]
  rw [← Nat.shiftLeft_add_eq_or_of_lt (by omega), Nat.shiftLeft_eq]
  omega

/-- `b:o` as a number (R8). -/
theorem mkAddr_toNat (bank : Byte) (off : Word) : (mkAddr bank off).toNat = bank.toNat * 0x10000 + off.toNat := by
  have := off.isLt
  simp only [mkAddr, BitVec.toNat_append]
  rw [← Nat.shiftLeft_add_eq_or_of_lt (by omega), Nat.shiftLeft_eq]

/-- A word of two bytes as a number (R91). -/
theorem wordOf_toNat (lo hi : Byte) : (wordOf lo hi).toNat = lo.toNat + 256 * hi.toNat := by
  have := lo.isLt
  simp only [wordOf, BitVec.toNat_append]
  rw [← Nat.shiftLeft_add_eq_or_of_lt (by omega), Nat.shiftLeft_eq]
  omega

/-- An address of three bytes as a number (R91). -/
theorem addrOf_toNat (lo mid bank : Byte) :
    (addrOf lo mid bank).toNat = lo.toNat + 256 * mid.toNat + 0x10000 * bank.toNat := by
  show (mkAddr bank (wordOf lo mid)).toNat = _
  rw [mkAddr_toNat, wordOf_toNat]
  omega

end Sys2Proof.Machine
end

