-- ==== Sys2Proof/Laws/Ops.lean ====
section
/-! SUPPORT. One lemma for each shared operation, saying once what it does: operands, stack, width discipline, interrupt entry
and return. -/

namespace Sys2Proof.Machine

/-! Operands. -/

@[simp] theorem MemMode.ea_mem (m : MemMode) (c : Cpu) (b : Bus) : (m.ea c b).2.mem = b.mem := by
  cases m <;> simp [MemMode.ea]

@[simp] theorem MemMode.ea_params (m : MemMode) (c : Cpu) (b : Bus) : (m.ea c b).2.params = b.params := by
  cases m <;> simp [MemMode.ea]

@[simp] theorem MemMode.ea_patches (m : MemMode) (c : Cpu) (b : Bus) : (m.ea c b).2.patches = b.patches := by
  cases m <;> simp [MemMode.ea]

@[simp] theorem Operand.load_mem (o : Operand) (w : Width) (c : Cpu) (b : Bus) : (o.load w c b).2.mem = b.mem := by
  cases o <;> simp [Operand.load]

@[simp] theorem Operand.load_params (o : Operand) (w : Width) (c : Cpu) (b : Bus) : (o.load w c b).2.params = b.params := by
  cases o <;> simp [Operand.load]

/-- A loaded value fits its width. -/
theorem Operand.load_lt (o : Operand) (w : Width) (c : Cpu) (b : Bus) : (o.load w c b).1.toNat < 2 ^ w.bits := by
  cases o
  · exact Width.mask_lt _ _
  · exact Bus.readW_lt _ _ _

theorem MemMode.store_wf {b : Bus} (h : Memory.wf b.mem) (m : MemMode) (w : Width) (v : Word) (c : Cpu) :
    Memory.wf (m.store w v c b).mem :=
  Bus.writeW_wf (by simpa using h) _ _ _

/-- A load changes the Bus only, and not its memory. -/
theorem State.load_eq (s : State) (o : Operand) (w : Width) :
    s.load o w = ((o.load w s.cpu s.bus).1, s.setBus (o.load w s.cpu s.bus).2) := rfl

@[simp] theorem State.load_cpu (s : State) (o : Operand) (w : Width) : (s.load o w).2.cpu = s.cpu := rfl
@[simp] theorem State.load_mem (s : State) (o : Operand) (w : Width) : (s.load o w).2.bus.mem = s.bus.mem := by
  simp [State.load]
@[simp] theorem State.load_env (s : State) (o : Operand) (w : Width) : (s.load o w).2.env = s.env := rfl
@[simp] theorem State.store_cpu (s : State) (m : MemMode) (w : Width) (v : Word) : (s.store m w v).cpu = s.cpu := rfl
@[simp] theorem State.store_env (s : State) (m : MemMode) (w : Width) (v : Word) : (s.store m w v).env = s.env := rfl

/-- A read-modify-write leaves every register but the accumulator and the status byte as it was. -/
theorem State.rmw_cpu (s : State) (f : Width → Word → Byte → RmwOut) (o : RmwOperand) :
    (s.rmw f o).cpu = { s.cpu with a := (s.rmw f o).cpu.a, p := (s.rmw f o).cpu.p } := by
  cases o <;> rfl

theorem State.rmw_wf {s : State} (h : Memory.wf s.bus.mem) (f : Width → Word → Byte → RmwOut) (o : RmwOperand) :
    Memory.wf (s.rmw f o).bus.mem := by
  cases o
  · exact h
  · exact Bus.writeW_wf (by simpa using h) _ _ _

@[simp] theorem State.rmw_env (s : State) (f : Width → Word → Byte → RmwOut) (o : RmwOperand) :
    (s.rmw f o).env = s.env := by
  cases o <;> rfl

/-! The stack pointer. -/

theorem stackPtr_native (v : Word) : stackPtr false v = v := rfl

/-- In emulation mode every stack pointer written lies in page `$01` (R23). -/
theorem hiByte_stackPtr_emulation (v : Word) : hiByte (stackPtr true v) = 0x01 := by
  apply BitVec.eq_of_getLsbD_eq
  intro i hi
  simp only [hiByte, stackPtr, if_true, BitVec.getLsbD_extractLsb', BitVec.getLsbD_or, BitVec.getLsbD_and]
  obtain rfl | rfl | rfl | rfl | rfl | rfl | rfl | rfl :
      i = 0 ∨ i = 1 ∨ i = 2 ∨ i = 3 ∨ i = 4 ∨ i = 5 ∨ i = 6 ∨ i = 7 := by
    omega
  all_goals simp

/-- A stack pointer as a number: page `$01` in emulation mode (R33, R34). -/
theorem stackPtr_toNat (e : Bool) (v : Word) :
    (stackPtr e v).toNat = if e then 0x100 + v.toNat % 256 else v.toNat := by
  cases e
  · rfl
  · have h := hiByte_stackPtr_emulation v
    have hh : (stackPtr true v).toNat / 256 = 1 := by rw [← hiByte_toNat, h]; rfl
    have hl : (loByte (stackPtr true v)) = loByte v := by
      apply BitVec.eq_of_getLsbD_eq
      intro i hi
      simp only [loByte, stackPtr, if_true, BitVec.getLsbD_extractLsb', BitVec.getLsbD_or, BitVec.getLsbD_and]
      obtain rfl | rfl | rfl | rfl | rfl | rfl | rfl | rfl :
          i = 0 ∨ i = 1 ∨ i = 2 ∨ i = 3 ∨ i = 4 ∨ i = 5 ∨ i = 6 ∨ i = 7 := by
        omega
      all_goals simp
    have hl' := congrArg BitVec.toNat hl
    rw [loByte_toNat, loByte_toNat] at hl'
    simp only [if_true]
    omega

/-! Pushes and pulls: they change `S` and the Bus, and nothing else (R33 to R36). -/

theorem State.push8_eq (s : State) (v : Byte) :
    s.push8 v =
      { s with
        cpu := { s.cpu with s := stackPtr s.cpu.e (s.cpu.s - 1) }
        bus := s.bus.write (mkAddr 0x00 s.cpu.s) v } := rfl

theorem State.pull8_eq (s : State) :
    s.pull8 =
      ((s.bus.read (mkAddr 0x00 (stackPtr s.cpu.e (s.cpu.s + 1)))).1,
        { s with
          cpu := { s.cpu with s := stackPtr s.cpu.e (s.cpu.s + 1) }
          bus := (s.bus.read (mkAddr 0x00 (stackPtr s.cpu.e (s.cpu.s + 1)))).2 }) := rfl

/-- What every stack operation leaves: all of the CPU but `S`, the inputs, the script, the cartridge. -/
structure StackOnly (s t : State) : Prop where
  cpu : t.cpu = { s.cpu with s := t.cpu.s }
  irqLine : t.irqLine = s.irqLine
  resetReq : t.resetReq = s.resetReq
  env : t.env = s.env
  costDraws : t.costDraws = s.costDraws
  params : t.bus.params = s.bus.params
  patches : t.bus.patches = s.bus.patches
  page : s.cpu.e = true → hiByte t.cpu.s = 0x01
  wf : Memory.wf s.bus.mem → Memory.wf t.bus.mem

theorem StackOnly.e {s t : State} (h : StackOnly s t) : t.cpu.e = s.cpu.e := by rw [h.cpu]
theorem StackOnly.p {s t : State} (h : StackOnly s t) : t.cpu.p = s.cpu.p := by rw [h.cpu]
theorem StackOnly.x8 {s t : State} (h : StackOnly s t) : t.cpu.x8 = s.cpu.x8 := by rw [Cpu.x8, Cpu.x8, h.e, h.p]

theorem StackOnly.trans {s t u : State} (h : StackOnly s t) (h' : StackOnly t u) : StackOnly s u where
  cpu := by rw [h'.cpu, h.cpu]
  irqLine := h'.irqLine.trans h.irqLine
  resetReq := h'.resetReq.trans h.resetReq
  env := h'.env.trans h.env
  costDraws := h'.costDraws.trans h.costDraws
  params := h'.params.trans h.params
  patches := h'.patches.trans h.patches
  page := fun he => h'.page (h.e.trans he)
  wf := fun hw => h'.wf (h.wf hw)

theorem State.push8_only (s : State) (v : Byte) : StackOnly s (s.push8 v) where
  cpu := rfl
  irqLine := rfl
  resetReq := rfl
  env := rfl
  costDraws := rfl
  params := by simp [State.push8]
  patches := by simp [State.push8]
  page := fun he => by simp only [State.push8, State.setS_cpu_s, he]; exact hiByte_stackPtr_emulation _
  wf := fun hw => Bus.write_wf hw _ _

theorem State.pull8_only (s : State) : StackOnly s s.pull8.2 where
  cpu := rfl
  irqLine := rfl
  resetReq := rfl
  env := rfl
  costDraws := rfl
  params := by simp [State.pull8]
  patches := by simp [State.pull8]
  page := fun he => by simp only [State.pull8, State.setS_cpu_s, he]; exact hiByte_stackPtr_emulation _
  wf := fun hw => by simpa [State.pull8] using hw

@[simp] theorem State.pull8_mem (s : State) : s.pull8.2.bus.mem = s.bus.mem := by simp [State.pull8]

theorem State.push16_only (s : State) (v : Word) : StackOnly s (s.push16 v) :=
  (s.push8_only _).trans (State.push8_only _ _)

theorem State.pull16_only (s : State) : StackOnly s s.pull16.2 :=
  (s.pull8_only).trans (State.pull8_only _)

@[simp] theorem State.pull16_mem (s : State) : s.pull16.2.bus.mem = s.bus.mem := by simp [State.pull16]

theorem State.pushW_only (s : State) (w : Width) (v : Word) : StackOnly s (s.pushW w v) := by
  cases w
  · exact s.push8_only _
  · exact s.push16_only _

theorem State.pullW_only (s : State) (w : Width) : StackOnly s (s.pullW w).2 := by
  cases w
  · exact s.pull8_only
  · exact s.pull16_only

@[simp] theorem State.pullW_mem (s : State) (w : Width) : (s.pullW w).2.bus.mem = s.bus.mem := by
  cases w <;> simp [State.pullW]

/-- A value pulled at a width fits it. -/
theorem State.pullW_lt (s : State) (w : Width) : (s.pullW w).1.toNat < 2 ^ w.bits := by
  cases w
  · have := s.pull8.1.isLt
    simp only [State.pullW, BitVec.toNat_setWidth, Width.bits]
    omega
  · exact (s.pullW .w16).1.isLt

/-! The width discipline (R31). -/

theorem State.widthDiscipline_eq (s : State) :
    s.widthDiscipline =
      { s with
        cpu :=
          { s.cpu with
            a := if s.cpu.m8 then s.cpu.a &&& 0x00FF else s.cpu.a
            x := if s.cpu.x8 then s.cpu.x &&& 0x00FF else s.cpu.x
            y := if s.cpu.x8 then s.cpu.y &&& 0x00FF else s.cpu.y
            s := stackPtr s.cpu.e s.cpu.s } } := by
  have hx : (if s.cpu.m8 = true then s.setA (s.cpu.a &&& 0x00FF) else s).cpu.x8 = s.cpu.x8 := by split <;> rfl
  unfold State.widthDiscipline
  simp only [hx]
  split <;> split <;> rfl

@[simp] theorem State.widthDiscipline_bus (s : State) : s.widthDiscipline.bus = s.bus := by
  rw [State.widthDiscipline_eq]

@[simp] theorem State.widthDiscipline_env (s : State) : s.widthDiscipline.env = s.env := by
  rw [State.widthDiscipline_eq]

/-! Interrupt entry and return. -/

/-- The pushes of interrupt entry (R356). -/
def State.entryPushes (s : State) (kind : IntKind) : State :=
  ((if s.cpu.e then s else s.push8 s.cpu.pb).push16 s.cpu.pc).push8 (statusImage kind s.cpu.e s.cpu.p)

theorem State.entryPushes_only (s : State) (kind : IntKind) : StackOnly s (s.entryPushes kind) := by
  unfold State.entryPushes
  split
  · exact (s.push16_only _).trans (State.push8_only _ _)
  · exact ((s.push8_only _).trans (State.push16_only _ _)).trans (State.push8_only _ _)

/-- Interrupt entry: the pushes, then `P`, the NMI latch, `PB` and `PC` (R356). -/
theorem State.interrupt_eq (s : State) (kind : IntKind) :
    s.interrupt kind =
      { s.entryPushes kind with
        cpu :=
          { (s.entryPushes kind).cpu with
            p := flagSet (flagSet s.cpu.p .i true) .d false
            nmiReq := if kind = .nmi then false else (s.entryPushes kind).cpu.nmiReq
            pb := 0x00
            pc := ((s.entryPushes kind).bus.read16 (mkAddr 0x00 (vectorOf kind s.cpu.e))).1 }
        bus := ((s.entryPushes kind).bus.read16 (mkAddr 0x00 (vectorOf kind s.cpu.e))).2 } := by
  show ((State.setBus _ _).setPB _).setPC _ = _
  unfold State.entryPushes
  generalize ((if s.cpu.e then s else s.push8 s.cpu.pb).push16 s.cpu.pc).push8 (statusImage kind s.cpu.e s.cpu.p) = t
  cases kind <;> simp <;> rfl

/-- The return from an interrupt changes `P`, `PC`, `PB`, `S` and what the width discipline cuts, and leaves memory as it was. -/
theorem State.returnFromInterrupt_mem (s : State) : s.returnFromInterrupt.bus.mem = s.bus.mem := by
  unfold State.returnFromInterrupt
  simp only [State.widthDiscipline_bus]
  split <;> simp

@[simp] theorem State.returnFromInterrupt_env (s : State) : s.returnFromInterrupt.env = s.env := by
  unfold State.returnFromInterrupt
  simp only [State.widthDiscipline_env]
  split <;> rfl

end Sys2Proof.Machine
end

