-- ==== Sys2Proof/Laws/PerInstr.lean ====
section
/-! SUPPORT. Per-instruction families: one lemma for each constructor of `Instr`. -/

namespace Sys2Proof.Laws

/-- The encoding of a well-formed instruction is one opcode byte and as many operand bytes as that opcode takes under the
widths in force (R92). -/
def EncodedLength.Statement (i : Instr) : Prop :=
  ∀ m8 x8 : Bool, i.wf m8 x8 = true →
    ∃ op rest, encode i = op :: rest ∧ rest.length = (shapeOf op).operandBytes m8 x8

theorem EncodedLength.brk (sig : Byte) : EncodedLength.Statement (.brk sig) := fun _ _ _ => ⟨_, _, rfl, rfl⟩
theorem EncodedLength.oraDpXInd (d : Byte) : EncodedLength.Statement (.oraDpXInd d) := fun _ _ _ => ⟨_, _, rfl, rfl⟩
theorem EncodedLength.cop (sig : Byte) : EncodedLength.Statement (.cop sig) := fun _ _ _ => ⟨_, _, rfl, rfl⟩
theorem EncodedLength.oraSr (d : Byte) : EncodedLength.Statement (.oraSr d) := fun _ _ _ => ⟨_, _, rfl, rfl⟩
theorem EncodedLength.tsbDp (d : Byte) : EncodedLength.Statement (.tsbDp d) := fun _ _ _ => ⟨_, _, rfl, rfl⟩
theorem EncodedLength.oraDp (d : Byte) : EncodedLength.Statement (.oraDp d) := fun _ _ _ => ⟨_, _, rfl, rfl⟩
theorem EncodedLength.aslDp (d : Byte) : EncodedLength.Statement (.aslDp d) := fun _ _ _ => ⟨_, _, rfl, rfl⟩
theorem EncodedLength.oraDpIndLong (d : Byte) : EncodedLength.Statement (.oraDpIndLong d) := fun _ _ _ => ⟨_, _, rfl, rfl⟩
theorem EncodedLength.php : EncodedLength.Statement .php := fun _ _ _ => ⟨_, _, rfl, rfl⟩
theorem EncodedLength.oraImm (v : Imm) : EncodedLength.Statement (.oraImm v) := by
  intro m8 x8 h
  cases v <;> cases m8 <;> cases x8 <;> first | exact ⟨_, _, rfl, rfl⟩ | cases h
theorem EncodedLength.aslA : EncodedLength.Statement .aslA := fun _ _ _ => ⟨_, _, rfl, rfl⟩
theorem EncodedLength.phd : EncodedLength.Statement .phd := fun _ _ _ => ⟨_, _, rfl, rfl⟩
theorem EncodedLength.tsbAbs (o : Word) : EncodedLength.Statement (.tsbAbs o) := fun _ _ _ => ⟨_, _, rfl, rfl⟩
theorem EncodedLength.oraAbs (o : Word) : EncodedLength.Statement (.oraAbs o) := fun _ _ _ => ⟨_, _, rfl, rfl⟩
theorem EncodedLength.aslAbs (o : Word) : EncodedLength.Statement (.aslAbs o) := fun _ _ _ => ⟨_, _, rfl, rfl⟩
theorem EncodedLength.oraLong (a : Addr) : EncodedLength.Statement (.oraLong a) := fun _ _ _ => ⟨_, _, rfl, rfl⟩
theorem EncodedLength.bpl (r : Byte) : EncodedLength.Statement (.bpl r) := fun _ _ _ => ⟨_, _, rfl, rfl⟩
theorem EncodedLength.oraDpIndY (d : Byte) : EncodedLength.Statement (.oraDpIndY d) := fun _ _ _ => ⟨_, _, rfl, rfl⟩
theorem EncodedLength.oraDpInd (d : Byte) : EncodedLength.Statement (.oraDpInd d) := fun _ _ _ => ⟨_, _, rfl, rfl⟩
theorem EncodedLength.oraSrIndY (d : Byte) : EncodedLength.Statement (.oraSrIndY d) := fun _ _ _ => ⟨_, _, rfl, rfl⟩
theorem EncodedLength.trbDp (d : Byte) : EncodedLength.Statement (.trbDp d) := fun _ _ _ => ⟨_, _, rfl, rfl⟩
theorem EncodedLength.oraDpX (d : Byte) : EncodedLength.Statement (.oraDpX d) := fun _ _ _ => ⟨_, _, rfl, rfl⟩
theorem EncodedLength.aslDpX (d : Byte) : EncodedLength.Statement (.aslDpX d) := fun _ _ _ => ⟨_, _, rfl, rfl⟩
theorem EncodedLength.oraDpIndLongY (d : Byte) : EncodedLength.Statement (.oraDpIndLongY d) := fun _ _ _ => ⟨_, _, rfl, rfl⟩
theorem EncodedLength.clc : EncodedLength.Statement .clc := fun _ _ _ => ⟨_, _, rfl, rfl⟩
theorem EncodedLength.oraAbsY (o : Word) : EncodedLength.Statement (.oraAbsY o) := fun _ _ _ => ⟨_, _, rfl, rfl⟩
theorem EncodedLength.incA : EncodedLength.Statement .incA := fun _ _ _ => ⟨_, _, rfl, rfl⟩
theorem EncodedLength.tcs : EncodedLength.Statement .tcs := fun _ _ _ => ⟨_, _, rfl, rfl⟩
theorem EncodedLength.trbAbs (o : Word) : EncodedLength.Statement (.trbAbs o) := fun _ _ _ => ⟨_, _, rfl, rfl⟩
theorem EncodedLength.oraAbsX (o : Word) : EncodedLength.Statement (.oraAbsX o) := fun _ _ _ => ⟨_, _, rfl, rfl⟩
theorem EncodedLength.aslAbsX (o : Word) : EncodedLength.Statement (.aslAbsX o) := fun _ _ _ => ⟨_, _, rfl, rfl⟩
theorem EncodedLength.oraLongX (a : Addr) : EncodedLength.Statement (.oraLongX a) := fun _ _ _ => ⟨_, _, rfl, rfl⟩
theorem EncodedLength.jsrAbs (o : Word) : EncodedLength.Statement (.jsrAbs o) := fun _ _ _ => ⟨_, _, rfl, rfl⟩
theorem EncodedLength.andDpXInd (d : Byte) : EncodedLength.Statement (.andDpXInd d) := fun _ _ _ => ⟨_, _, rfl, rfl⟩
theorem EncodedLength.jsl (a : Addr) : EncodedLength.Statement (.jsl a) := fun _ _ _ => ⟨_, _, rfl, rfl⟩
theorem EncodedLength.andSr (d : Byte) : EncodedLength.Statement (.andSr d) := fun _ _ _ => ⟨_, _, rfl, rfl⟩
theorem EncodedLength.bitDp (d : Byte) : EncodedLength.Statement (.bitDp d) := fun _ _ _ => ⟨_, _, rfl, rfl⟩
theorem EncodedLength.andDp (d : Byte) : EncodedLength.Statement (.andDp d) := fun _ _ _ => ⟨_, _, rfl, rfl⟩
theorem EncodedLength.rolDp (d : Byte) : EncodedLength.Statement (.rolDp d) := fun _ _ _ => ⟨_, _, rfl, rfl⟩
theorem EncodedLength.andDpIndLong (d : Byte) : EncodedLength.Statement (.andDpIndLong d) := fun _ _ _ => ⟨_, _, rfl, rfl⟩
theorem EncodedLength.plp : EncodedLength.Statement .plp := fun _ _ _ => ⟨_, _, rfl, rfl⟩
theorem EncodedLength.andImm (v : Imm) : EncodedLength.Statement (.andImm v) := by
  intro m8 x8 h
  cases v <;> cases m8 <;> cases x8 <;> first | exact ⟨_, _, rfl, rfl⟩ | cases h
theorem EncodedLength.rolA : EncodedLength.Statement .rolA := fun _ _ _ => ⟨_, _, rfl, rfl⟩
theorem EncodedLength.pld : EncodedLength.Statement .pld := fun _ _ _ => ⟨_, _, rfl, rfl⟩
theorem EncodedLength.bitAbs (o : Word) : EncodedLength.Statement (.bitAbs o) := fun _ _ _ => ⟨_, _, rfl, rfl⟩
theorem EncodedLength.andAbs (o : Word) : EncodedLength.Statement (.andAbs o) := fun _ _ _ => ⟨_, _, rfl, rfl⟩
theorem EncodedLength.rolAbs (o : Word) : EncodedLength.Statement (.rolAbs o) := fun _ _ _ => ⟨_, _, rfl, rfl⟩
theorem EncodedLength.andLong (a : Addr) : EncodedLength.Statement (.andLong a) := fun _ _ _ => ⟨_, _, rfl, rfl⟩
theorem EncodedLength.bmi (r : Byte) : EncodedLength.Statement (.bmi r) := fun _ _ _ => ⟨_, _, rfl, rfl⟩
theorem EncodedLength.andDpIndY (d : Byte) : EncodedLength.Statement (.andDpIndY d) := fun _ _ _ => ⟨_, _, rfl, rfl⟩
theorem EncodedLength.andDpInd (d : Byte) : EncodedLength.Statement (.andDpInd d) := fun _ _ _ => ⟨_, _, rfl, rfl⟩
theorem EncodedLength.andSrIndY (d : Byte) : EncodedLength.Statement (.andSrIndY d) := fun _ _ _ => ⟨_, _, rfl, rfl⟩
theorem EncodedLength.bitDpX (d : Byte) : EncodedLength.Statement (.bitDpX d) := fun _ _ _ => ⟨_, _, rfl, rfl⟩
theorem EncodedLength.andDpX (d : Byte) : EncodedLength.Statement (.andDpX d) := fun _ _ _ => ⟨_, _, rfl, rfl⟩
theorem EncodedLength.rolDpX (d : Byte) : EncodedLength.Statement (.rolDpX d) := fun _ _ _ => ⟨_, _, rfl, rfl⟩
theorem EncodedLength.andDpIndLongY (d : Byte) : EncodedLength.Statement (.andDpIndLongY d) := fun _ _ _ => ⟨_, _, rfl, rfl⟩
theorem EncodedLength.sec : EncodedLength.Statement .sec := fun _ _ _ => ⟨_, _, rfl, rfl⟩
theorem EncodedLength.andAbsY (o : Word) : EncodedLength.Statement (.andAbsY o) := fun _ _ _ => ⟨_, _, rfl, rfl⟩
theorem EncodedLength.decA : EncodedLength.Statement .decA := fun _ _ _ => ⟨_, _, rfl, rfl⟩
theorem EncodedLength.tsc : EncodedLength.Statement .tsc := fun _ _ _ => ⟨_, _, rfl, rfl⟩
theorem EncodedLength.bitAbsX (o : Word) : EncodedLength.Statement (.bitAbsX o) := fun _ _ _ => ⟨_, _, rfl, rfl⟩
theorem EncodedLength.andAbsX (o : Word) : EncodedLength.Statement (.andAbsX o) := fun _ _ _ => ⟨_, _, rfl, rfl⟩
theorem EncodedLength.rolAbsX (o : Word) : EncodedLength.Statement (.rolAbsX o) := fun _ _ _ => ⟨_, _, rfl, rfl⟩
theorem EncodedLength.andLongX (a : Addr) : EncodedLength.Statement (.andLongX a) := fun _ _ _ => ⟨_, _, rfl, rfl⟩
theorem EncodedLength.rti : EncodedLength.Statement .rti := fun _ _ _ => ⟨_, _, rfl, rfl⟩
theorem EncodedLength.eorDpXInd (d : Byte) : EncodedLength.Statement (.eorDpXInd d) := fun _ _ _ => ⟨_, _, rfl, rfl⟩
theorem EncodedLength.wdm (b : Byte) : EncodedLength.Statement (.wdm b) := fun _ _ _ => ⟨_, _, rfl, rfl⟩
theorem EncodedLength.eorSr (d : Byte) : EncodedLength.Statement (.eorSr d) := fun _ _ _ => ⟨_, _, rfl, rfl⟩
theorem EncodedLength.mvp (dst : Byte) (src : Byte) : EncodedLength.Statement (.mvp dst src) := fun _ _ _ => ⟨_, _, rfl, rfl⟩
theorem EncodedLength.eorDp (d : Byte) : EncodedLength.Statement (.eorDp d) := fun _ _ _ => ⟨_, _, rfl, rfl⟩
theorem EncodedLength.lsrDp (d : Byte) : EncodedLength.Statement (.lsrDp d) := fun _ _ _ => ⟨_, _, rfl, rfl⟩
theorem EncodedLength.eorDpIndLong (d : Byte) : EncodedLength.Statement (.eorDpIndLong d) := fun _ _ _ => ⟨_, _, rfl, rfl⟩
theorem EncodedLength.pha : EncodedLength.Statement .pha := fun _ _ _ => ⟨_, _, rfl, rfl⟩
theorem EncodedLength.eorImm (v : Imm) : EncodedLength.Statement (.eorImm v) := by
  intro m8 x8 h
  cases v <;> cases m8 <;> cases x8 <;> first | exact ⟨_, _, rfl, rfl⟩ | cases h
theorem EncodedLength.lsrA : EncodedLength.Statement .lsrA := fun _ _ _ => ⟨_, _, rfl, rfl⟩
theorem EncodedLength.phk : EncodedLength.Statement .phk := fun _ _ _ => ⟨_, _, rfl, rfl⟩
theorem EncodedLength.jmpAbs (o : Word) : EncodedLength.Statement (.jmpAbs o) := fun _ _ _ => ⟨_, _, rfl, rfl⟩
theorem EncodedLength.eorAbs (o : Word) : EncodedLength.Statement (.eorAbs o) := fun _ _ _ => ⟨_, _, rfl, rfl⟩
theorem EncodedLength.lsrAbs (o : Word) : EncodedLength.Statement (.lsrAbs o) := fun _ _ _ => ⟨_, _, rfl, rfl⟩
theorem EncodedLength.eorLong (a : Addr) : EncodedLength.Statement (.eorLong a) := fun _ _ _ => ⟨_, _, rfl, rfl⟩
theorem EncodedLength.bvc (r : Byte) : EncodedLength.Statement (.bvc r) := fun _ _ _ => ⟨_, _, rfl, rfl⟩
theorem EncodedLength.eorDpIndY (d : Byte) : EncodedLength.Statement (.eorDpIndY d) := fun _ _ _ => ⟨_, _, rfl, rfl⟩
theorem EncodedLength.eorDpInd (d : Byte) : EncodedLength.Statement (.eorDpInd d) := fun _ _ _ => ⟨_, _, rfl, rfl⟩
theorem EncodedLength.eorSrIndY (d : Byte) : EncodedLength.Statement (.eorSrIndY d) := fun _ _ _ => ⟨_, _, rfl, rfl⟩
theorem EncodedLength.mvn (dst : Byte) (src : Byte) : EncodedLength.Statement (.mvn dst src) := fun _ _ _ => ⟨_, _, rfl, rfl⟩
theorem EncodedLength.eorDpX (d : Byte) : EncodedLength.Statement (.eorDpX d) := fun _ _ _ => ⟨_, _, rfl, rfl⟩
theorem EncodedLength.lsrDpX (d : Byte) : EncodedLength.Statement (.lsrDpX d) := fun _ _ _ => ⟨_, _, rfl, rfl⟩
theorem EncodedLength.eorDpIndLongY (d : Byte) : EncodedLength.Statement (.eorDpIndLongY d) := fun _ _ _ => ⟨_, _, rfl, rfl⟩
theorem EncodedLength.cli : EncodedLength.Statement .cli := fun _ _ _ => ⟨_, _, rfl, rfl⟩
theorem EncodedLength.eorAbsY (o : Word) : EncodedLength.Statement (.eorAbsY o) := fun _ _ _ => ⟨_, _, rfl, rfl⟩
theorem EncodedLength.phy : EncodedLength.Statement .phy := fun _ _ _ => ⟨_, _, rfl, rfl⟩
theorem EncodedLength.tcd : EncodedLength.Statement .tcd := fun _ _ _ => ⟨_, _, rfl, rfl⟩
theorem EncodedLength.jmlLong (a : Addr) : EncodedLength.Statement (.jmlLong a) := fun _ _ _ => ⟨_, _, rfl, rfl⟩
theorem EncodedLength.eorAbsX (o : Word) : EncodedLength.Statement (.eorAbsX o) := fun _ _ _ => ⟨_, _, rfl, rfl⟩
theorem EncodedLength.lsrAbsX (o : Word) : EncodedLength.Statement (.lsrAbsX o) := fun _ _ _ => ⟨_, _, rfl, rfl⟩
theorem EncodedLength.eorLongX (a : Addr) : EncodedLength.Statement (.eorLongX a) := fun _ _ _ => ⟨_, _, rfl, rfl⟩
theorem EncodedLength.rts : EncodedLength.Statement .rts := fun _ _ _ => ⟨_, _, rfl, rfl⟩
theorem EncodedLength.adcDpXInd (d : Byte) : EncodedLength.Statement (.adcDpXInd d) := fun _ _ _ => ⟨_, _, rfl, rfl⟩
theorem EncodedLength.per (r : Word) : EncodedLength.Statement (.per r) := fun _ _ _ => ⟨_, _, rfl, rfl⟩
theorem EncodedLength.adcSr (d : Byte) : EncodedLength.Statement (.adcSr d) := fun _ _ _ => ⟨_, _, rfl, rfl⟩
theorem EncodedLength.stzDp (d : Byte) : EncodedLength.Statement (.stzDp d) := fun _ _ _ => ⟨_, _, rfl, rfl⟩
theorem EncodedLength.adcDp (d : Byte) : EncodedLength.Statement (.adcDp d) := fun _ _ _ => ⟨_, _, rfl, rfl⟩
theorem EncodedLength.rorDp (d : Byte) : EncodedLength.Statement (.rorDp d) := fun _ _ _ => ⟨_, _, rfl, rfl⟩
theorem EncodedLength.adcDpIndLong (d : Byte) : EncodedLength.Statement (.adcDpIndLong d) := fun _ _ _ => ⟨_, _, rfl, rfl⟩
theorem EncodedLength.pla : EncodedLength.Statement .pla := fun _ _ _ => ⟨_, _, rfl, rfl⟩
theorem EncodedLength.adcImm (v : Imm) : EncodedLength.Statement (.adcImm v) := by
  intro m8 x8 h
  cases v <;> cases m8 <;> cases x8 <;> first | exact ⟨_, _, rfl, rfl⟩ | cases h
theorem EncodedLength.rorA : EncodedLength.Statement .rorA := fun _ _ _ => ⟨_, _, rfl, rfl⟩
theorem EncodedLength.rtl : EncodedLength.Statement .rtl := fun _ _ _ => ⟨_, _, rfl, rfl⟩
theorem EncodedLength.jmpInd (o : Word) : EncodedLength.Statement (.jmpInd o) := fun _ _ _ => ⟨_, _, rfl, rfl⟩
theorem EncodedLength.adcAbs (o : Word) : EncodedLength.Statement (.adcAbs o) := fun _ _ _ => ⟨_, _, rfl, rfl⟩
theorem EncodedLength.rorAbs (o : Word) : EncodedLength.Statement (.rorAbs o) := fun _ _ _ => ⟨_, _, rfl, rfl⟩
theorem EncodedLength.adcLong (a : Addr) : EncodedLength.Statement (.adcLong a) := fun _ _ _ => ⟨_, _, rfl, rfl⟩
theorem EncodedLength.bvs (r : Byte) : EncodedLength.Statement (.bvs r) := fun _ _ _ => ⟨_, _, rfl, rfl⟩
theorem EncodedLength.adcDpIndY (d : Byte) : EncodedLength.Statement (.adcDpIndY d) := fun _ _ _ => ⟨_, _, rfl, rfl⟩
theorem EncodedLength.adcDpInd (d : Byte) : EncodedLength.Statement (.adcDpInd d) := fun _ _ _ => ⟨_, _, rfl, rfl⟩
theorem EncodedLength.adcSrIndY (d : Byte) : EncodedLength.Statement (.adcSrIndY d) := fun _ _ _ => ⟨_, _, rfl, rfl⟩
theorem EncodedLength.stzDpX (d : Byte) : EncodedLength.Statement (.stzDpX d) := fun _ _ _ => ⟨_, _, rfl, rfl⟩
theorem EncodedLength.adcDpX (d : Byte) : EncodedLength.Statement (.adcDpX d) := fun _ _ _ => ⟨_, _, rfl, rfl⟩
theorem EncodedLength.rorDpX (d : Byte) : EncodedLength.Statement (.rorDpX d) := fun _ _ _ => ⟨_, _, rfl, rfl⟩
theorem EncodedLength.adcDpIndLongY (d : Byte) : EncodedLength.Statement (.adcDpIndLongY d) := fun _ _ _ => ⟨_, _, rfl, rfl⟩
theorem EncodedLength.sei : EncodedLength.Statement .sei := fun _ _ _ => ⟨_, _, rfl, rfl⟩
theorem EncodedLength.adcAbsY (o : Word) : EncodedLength.Statement (.adcAbsY o) := fun _ _ _ => ⟨_, _, rfl, rfl⟩
theorem EncodedLength.ply : EncodedLength.Statement .ply := fun _ _ _ => ⟨_, _, rfl, rfl⟩
theorem EncodedLength.tdc : EncodedLength.Statement .tdc := fun _ _ _ => ⟨_, _, rfl, rfl⟩
theorem EncodedLength.jmpIndX (o : Word) : EncodedLength.Statement (.jmpIndX o) := fun _ _ _ => ⟨_, _, rfl, rfl⟩
theorem EncodedLength.adcAbsX (o : Word) : EncodedLength.Statement (.adcAbsX o) := fun _ _ _ => ⟨_, _, rfl, rfl⟩
theorem EncodedLength.rorAbsX (o : Word) : EncodedLength.Statement (.rorAbsX o) := fun _ _ _ => ⟨_, _, rfl, rfl⟩
theorem EncodedLength.adcLongX (a : Addr) : EncodedLength.Statement (.adcLongX a) := fun _ _ _ => ⟨_, _, rfl, rfl⟩
theorem EncodedLength.bra (r : Byte) : EncodedLength.Statement (.bra r) := fun _ _ _ => ⟨_, _, rfl, rfl⟩
theorem EncodedLength.staDpXInd (d : Byte) : EncodedLength.Statement (.staDpXInd d) := fun _ _ _ => ⟨_, _, rfl, rfl⟩
theorem EncodedLength.brl (r : Word) : EncodedLength.Statement (.brl r) := fun _ _ _ => ⟨_, _, rfl, rfl⟩
theorem EncodedLength.staSr (d : Byte) : EncodedLength.Statement (.staSr d) := fun _ _ _ => ⟨_, _, rfl, rfl⟩
theorem EncodedLength.styDp (d : Byte) : EncodedLength.Statement (.styDp d) := fun _ _ _ => ⟨_, _, rfl, rfl⟩
theorem EncodedLength.staDp (d : Byte) : EncodedLength.Statement (.staDp d) := fun _ _ _ => ⟨_, _, rfl, rfl⟩
theorem EncodedLength.stxDp (d : Byte) : EncodedLength.Statement (.stxDp d) := fun _ _ _ => ⟨_, _, rfl, rfl⟩
theorem EncodedLength.staDpIndLong (d : Byte) : EncodedLength.Statement (.staDpIndLong d) := fun _ _ _ => ⟨_, _, rfl, rfl⟩
theorem EncodedLength.dey : EncodedLength.Statement .dey := fun _ _ _ => ⟨_, _, rfl, rfl⟩
theorem EncodedLength.bitImm (v : Imm) : EncodedLength.Statement (.bitImm v) := by
  intro m8 x8 h
  cases v <;> cases m8 <;> cases x8 <;> first | exact ⟨_, _, rfl, rfl⟩ | cases h
theorem EncodedLength.txa : EncodedLength.Statement .txa := fun _ _ _ => ⟨_, _, rfl, rfl⟩
theorem EncodedLength.phb : EncodedLength.Statement .phb := fun _ _ _ => ⟨_, _, rfl, rfl⟩
theorem EncodedLength.styAbs (o : Word) : EncodedLength.Statement (.styAbs o) := fun _ _ _ => ⟨_, _, rfl, rfl⟩
theorem EncodedLength.staAbs (o : Word) : EncodedLength.Statement (.staAbs o) := fun _ _ _ => ⟨_, _, rfl, rfl⟩
theorem EncodedLength.stxAbs (o : Word) : EncodedLength.Statement (.stxAbs o) := fun _ _ _ => ⟨_, _, rfl, rfl⟩
theorem EncodedLength.staLong (a : Addr) : EncodedLength.Statement (.staLong a) := fun _ _ _ => ⟨_, _, rfl, rfl⟩
theorem EncodedLength.bcc (r : Byte) : EncodedLength.Statement (.bcc r) := fun _ _ _ => ⟨_, _, rfl, rfl⟩
theorem EncodedLength.staDpIndY (d : Byte) : EncodedLength.Statement (.staDpIndY d) := fun _ _ _ => ⟨_, _, rfl, rfl⟩
theorem EncodedLength.staDpInd (d : Byte) : EncodedLength.Statement (.staDpInd d) := fun _ _ _ => ⟨_, _, rfl, rfl⟩
theorem EncodedLength.staSrIndY (d : Byte) : EncodedLength.Statement (.staSrIndY d) := fun _ _ _ => ⟨_, _, rfl, rfl⟩
theorem EncodedLength.styDpX (d : Byte) : EncodedLength.Statement (.styDpX d) := fun _ _ _ => ⟨_, _, rfl, rfl⟩
theorem EncodedLength.staDpX (d : Byte) : EncodedLength.Statement (.staDpX d) := fun _ _ _ => ⟨_, _, rfl, rfl⟩
theorem EncodedLength.stxDpY (d : Byte) : EncodedLength.Statement (.stxDpY d) := fun _ _ _ => ⟨_, _, rfl, rfl⟩
theorem EncodedLength.staDpIndLongY (d : Byte) : EncodedLength.Statement (.staDpIndLongY d) := fun _ _ _ => ⟨_, _, rfl, rfl⟩
theorem EncodedLength.tya : EncodedLength.Statement .tya := fun _ _ _ => ⟨_, _, rfl, rfl⟩
theorem EncodedLength.staAbsY (o : Word) : EncodedLength.Statement (.staAbsY o) := fun _ _ _ => ⟨_, _, rfl, rfl⟩
theorem EncodedLength.txs : EncodedLength.Statement .txs := fun _ _ _ => ⟨_, _, rfl, rfl⟩
theorem EncodedLength.txy : EncodedLength.Statement .txy := fun _ _ _ => ⟨_, _, rfl, rfl⟩
theorem EncodedLength.stzAbs (o : Word) : EncodedLength.Statement (.stzAbs o) := fun _ _ _ => ⟨_, _, rfl, rfl⟩
theorem EncodedLength.staAbsX (o : Word) : EncodedLength.Statement (.staAbsX o) := fun _ _ _ => ⟨_, _, rfl, rfl⟩
theorem EncodedLength.stzAbsX (o : Word) : EncodedLength.Statement (.stzAbsX o) := fun _ _ _ => ⟨_, _, rfl, rfl⟩
theorem EncodedLength.staLongX (a : Addr) : EncodedLength.Statement (.staLongX a) := fun _ _ _ => ⟨_, _, rfl, rfl⟩
theorem EncodedLength.ldyImm (v : Imm) : EncodedLength.Statement (.ldyImm v) := by
  intro m8 x8 h
  cases v <;> cases m8 <;> cases x8 <;> first | exact ⟨_, _, rfl, rfl⟩ | cases h
theorem EncodedLength.ldaDpXInd (d : Byte) : EncodedLength.Statement (.ldaDpXInd d) := fun _ _ _ => ⟨_, _, rfl, rfl⟩
theorem EncodedLength.ldxImm (v : Imm) : EncodedLength.Statement (.ldxImm v) := by
  intro m8 x8 h
  cases v <;> cases m8 <;> cases x8 <;> first | exact ⟨_, _, rfl, rfl⟩ | cases h
theorem EncodedLength.ldaSr (d : Byte) : EncodedLength.Statement (.ldaSr d) := fun _ _ _ => ⟨_, _, rfl, rfl⟩
theorem EncodedLength.ldyDp (d : Byte) : EncodedLength.Statement (.ldyDp d) := fun _ _ _ => ⟨_, _, rfl, rfl⟩
theorem EncodedLength.ldaDp (d : Byte) : EncodedLength.Statement (.ldaDp d) := fun _ _ _ => ⟨_, _, rfl, rfl⟩
theorem EncodedLength.ldxDp (d : Byte) : EncodedLength.Statement (.ldxDp d) := fun _ _ _ => ⟨_, _, rfl, rfl⟩
theorem EncodedLength.ldaDpIndLong (d : Byte) : EncodedLength.Statement (.ldaDpIndLong d) := fun _ _ _ => ⟨_, _, rfl, rfl⟩
theorem EncodedLength.tay : EncodedLength.Statement .tay := fun _ _ _ => ⟨_, _, rfl, rfl⟩
theorem EncodedLength.ldaImm (v : Imm) : EncodedLength.Statement (.ldaImm v) := by
  intro m8 x8 h
  cases v <;> cases m8 <;> cases x8 <;> first | exact ⟨_, _, rfl, rfl⟩ | cases h
theorem EncodedLength.tax : EncodedLength.Statement .tax := fun _ _ _ => ⟨_, _, rfl, rfl⟩
theorem EncodedLength.plb : EncodedLength.Statement .plb := fun _ _ _ => ⟨_, _, rfl, rfl⟩
theorem EncodedLength.ldyAbs (o : Word) : EncodedLength.Statement (.ldyAbs o) := fun _ _ _ => ⟨_, _, rfl, rfl⟩
theorem EncodedLength.ldaAbs (o : Word) : EncodedLength.Statement (.ldaAbs o) := fun _ _ _ => ⟨_, _, rfl, rfl⟩
theorem EncodedLength.ldxAbs (o : Word) : EncodedLength.Statement (.ldxAbs o) := fun _ _ _ => ⟨_, _, rfl, rfl⟩
theorem EncodedLength.ldaLong (a : Addr) : EncodedLength.Statement (.ldaLong a) := fun _ _ _ => ⟨_, _, rfl, rfl⟩
theorem EncodedLength.bcs (r : Byte) : EncodedLength.Statement (.bcs r) := fun _ _ _ => ⟨_, _, rfl, rfl⟩
theorem EncodedLength.ldaDpIndY (d : Byte) : EncodedLength.Statement (.ldaDpIndY d) := fun _ _ _ => ⟨_, _, rfl, rfl⟩
theorem EncodedLength.ldaDpInd (d : Byte) : EncodedLength.Statement (.ldaDpInd d) := fun _ _ _ => ⟨_, _, rfl, rfl⟩
theorem EncodedLength.ldaSrIndY (d : Byte) : EncodedLength.Statement (.ldaSrIndY d) := fun _ _ _ => ⟨_, _, rfl, rfl⟩
theorem EncodedLength.ldyDpX (d : Byte) : EncodedLength.Statement (.ldyDpX d) := fun _ _ _ => ⟨_, _, rfl, rfl⟩
theorem EncodedLength.ldaDpX (d : Byte) : EncodedLength.Statement (.ldaDpX d) := fun _ _ _ => ⟨_, _, rfl, rfl⟩
theorem EncodedLength.ldxDpY (d : Byte) : EncodedLength.Statement (.ldxDpY d) := fun _ _ _ => ⟨_, _, rfl, rfl⟩
theorem EncodedLength.ldaDpIndLongY (d : Byte) : EncodedLength.Statement (.ldaDpIndLongY d) := fun _ _ _ => ⟨_, _, rfl, rfl⟩
theorem EncodedLength.clv : EncodedLength.Statement .clv := fun _ _ _ => ⟨_, _, rfl, rfl⟩
theorem EncodedLength.ldaAbsY (o : Word) : EncodedLength.Statement (.ldaAbsY o) := fun _ _ _ => ⟨_, _, rfl, rfl⟩
theorem EncodedLength.tsx : EncodedLength.Statement .tsx := fun _ _ _ => ⟨_, _, rfl, rfl⟩
theorem EncodedLength.tyx : EncodedLength.Statement .tyx := fun _ _ _ => ⟨_, _, rfl, rfl⟩
theorem EncodedLength.ldyAbsX (o : Word) : EncodedLength.Statement (.ldyAbsX o) := fun _ _ _ => ⟨_, _, rfl, rfl⟩
theorem EncodedLength.ldaAbsX (o : Word) : EncodedLength.Statement (.ldaAbsX o) := fun _ _ _ => ⟨_, _, rfl, rfl⟩
theorem EncodedLength.ldxAbsY (o : Word) : EncodedLength.Statement (.ldxAbsY o) := fun _ _ _ => ⟨_, _, rfl, rfl⟩
theorem EncodedLength.ldaLongX (a : Addr) : EncodedLength.Statement (.ldaLongX a) := fun _ _ _ => ⟨_, _, rfl, rfl⟩
theorem EncodedLength.cpyImm (v : Imm) : EncodedLength.Statement (.cpyImm v) := by
  intro m8 x8 h
  cases v <;> cases m8 <;> cases x8 <;> first | exact ⟨_, _, rfl, rfl⟩ | cases h
theorem EncodedLength.cmpDpXInd (d : Byte) : EncodedLength.Statement (.cmpDpXInd d) := fun _ _ _ => ⟨_, _, rfl, rfl⟩
theorem EncodedLength.rep (k : Byte) : EncodedLength.Statement (.rep k) := fun _ _ _ => ⟨_, _, rfl, rfl⟩
theorem EncodedLength.cmpSr (d : Byte) : EncodedLength.Statement (.cmpSr d) := fun _ _ _ => ⟨_, _, rfl, rfl⟩
theorem EncodedLength.cpyDp (d : Byte) : EncodedLength.Statement (.cpyDp d) := fun _ _ _ => ⟨_, _, rfl, rfl⟩
theorem EncodedLength.cmpDp (d : Byte) : EncodedLength.Statement (.cmpDp d) := fun _ _ _ => ⟨_, _, rfl, rfl⟩
theorem EncodedLength.decDp (d : Byte) : EncodedLength.Statement (.decDp d) := fun _ _ _ => ⟨_, _, rfl, rfl⟩
theorem EncodedLength.cmpDpIndLong (d : Byte) : EncodedLength.Statement (.cmpDpIndLong d) := fun _ _ _ => ⟨_, _, rfl, rfl⟩
theorem EncodedLength.iny : EncodedLength.Statement .iny := fun _ _ _ => ⟨_, _, rfl, rfl⟩
theorem EncodedLength.cmpImm (v : Imm) : EncodedLength.Statement (.cmpImm v) := by
  intro m8 x8 h
  cases v <;> cases m8 <;> cases x8 <;> first | exact ⟨_, _, rfl, rfl⟩ | cases h
theorem EncodedLength.dex : EncodedLength.Statement .dex := fun _ _ _ => ⟨_, _, rfl, rfl⟩
theorem EncodedLength.wai : EncodedLength.Statement .wai := fun _ _ _ => ⟨_, _, rfl, rfl⟩
theorem EncodedLength.cpyAbs (o : Word) : EncodedLength.Statement (.cpyAbs o) := fun _ _ _ => ⟨_, _, rfl, rfl⟩
theorem EncodedLength.cmpAbs (o : Word) : EncodedLength.Statement (.cmpAbs o) := fun _ _ _ => ⟨_, _, rfl, rfl⟩
theorem EncodedLength.decAbs (o : Word) : EncodedLength.Statement (.decAbs o) := fun _ _ _ => ⟨_, _, rfl, rfl⟩
theorem EncodedLength.cmpLong (a : Addr) : EncodedLength.Statement (.cmpLong a) := fun _ _ _ => ⟨_, _, rfl, rfl⟩
theorem EncodedLength.bne (r : Byte) : EncodedLength.Statement (.bne r) := fun _ _ _ => ⟨_, _, rfl, rfl⟩
theorem EncodedLength.cmpDpIndY (d : Byte) : EncodedLength.Statement (.cmpDpIndY d) := fun _ _ _ => ⟨_, _, rfl, rfl⟩
theorem EncodedLength.cmpDpInd (d : Byte) : EncodedLength.Statement (.cmpDpInd d) := fun _ _ _ => ⟨_, _, rfl, rfl⟩
theorem EncodedLength.cmpSrIndY (d : Byte) : EncodedLength.Statement (.cmpSrIndY d) := fun _ _ _ => ⟨_, _, rfl, rfl⟩
theorem EncodedLength.pei (d : Byte) : EncodedLength.Statement (.pei d) := fun _ _ _ => ⟨_, _, rfl, rfl⟩
theorem EncodedLength.cmpDpX (d : Byte) : EncodedLength.Statement (.cmpDpX d) := fun _ _ _ => ⟨_, _, rfl, rfl⟩
theorem EncodedLength.decDpX (d : Byte) : EncodedLength.Statement (.decDpX d) := fun _ _ _ => ⟨_, _, rfl, rfl⟩
theorem EncodedLength.cmpDpIndLongY (d : Byte) : EncodedLength.Statement (.cmpDpIndLongY d) := fun _ _ _ => ⟨_, _, rfl, rfl⟩
theorem EncodedLength.cld : EncodedLength.Statement .cld := fun _ _ _ => ⟨_, _, rfl, rfl⟩
theorem EncodedLength.cmpAbsY (o : Word) : EncodedLength.Statement (.cmpAbsY o) := fun _ _ _ => ⟨_, _, rfl, rfl⟩
theorem EncodedLength.phx : EncodedLength.Statement .phx := fun _ _ _ => ⟨_, _, rfl, rfl⟩
theorem EncodedLength.stp : EncodedLength.Statement .stp := fun _ _ _ => ⟨_, _, rfl, rfl⟩
theorem EncodedLength.jmlInd (o : Word) : EncodedLength.Statement (.jmlInd o) := fun _ _ _ => ⟨_, _, rfl, rfl⟩
theorem EncodedLength.cmpAbsX (o : Word) : EncodedLength.Statement (.cmpAbsX o) := fun _ _ _ => ⟨_, _, rfl, rfl⟩
theorem EncodedLength.decAbsX (o : Word) : EncodedLength.Statement (.decAbsX o) := fun _ _ _ => ⟨_, _, rfl, rfl⟩
theorem EncodedLength.cmpLongX (a : Addr) : EncodedLength.Statement (.cmpLongX a) := fun _ _ _ => ⟨_, _, rfl, rfl⟩
theorem EncodedLength.cpxImm (v : Imm) : EncodedLength.Statement (.cpxImm v) := by
  intro m8 x8 h
  cases v <;> cases m8 <;> cases x8 <;> first | exact ⟨_, _, rfl, rfl⟩ | cases h
theorem EncodedLength.sbcDpXInd (d : Byte) : EncodedLength.Statement (.sbcDpXInd d) := fun _ _ _ => ⟨_, _, rfl, rfl⟩
theorem EncodedLength.sep (k : Byte) : EncodedLength.Statement (.sep k) := fun _ _ _ => ⟨_, _, rfl, rfl⟩
theorem EncodedLength.sbcSr (d : Byte) : EncodedLength.Statement (.sbcSr d) := fun _ _ _ => ⟨_, _, rfl, rfl⟩
theorem EncodedLength.cpxDp (d : Byte) : EncodedLength.Statement (.cpxDp d) := fun _ _ _ => ⟨_, _, rfl, rfl⟩
theorem EncodedLength.sbcDp (d : Byte) : EncodedLength.Statement (.sbcDp d) := fun _ _ _ => ⟨_, _, rfl, rfl⟩
theorem EncodedLength.incDp (d : Byte) : EncodedLength.Statement (.incDp d) := fun _ _ _ => ⟨_, _, rfl, rfl⟩
theorem EncodedLength.sbcDpIndLong (d : Byte) : EncodedLength.Statement (.sbcDpIndLong d) := fun _ _ _ => ⟨_, _, rfl, rfl⟩
theorem EncodedLength.inx : EncodedLength.Statement .inx := fun _ _ _ => ⟨_, _, rfl, rfl⟩
theorem EncodedLength.sbcImm (v : Imm) : EncodedLength.Statement (.sbcImm v) := by
  intro m8 x8 h
  cases v <;> cases m8 <;> cases x8 <;> first | exact ⟨_, _, rfl, rfl⟩ | cases h
theorem EncodedLength.nop : EncodedLength.Statement .nop := fun _ _ _ => ⟨_, _, rfl, rfl⟩
theorem EncodedLength.xba : EncodedLength.Statement .xba := fun _ _ _ => ⟨_, _, rfl, rfl⟩
theorem EncodedLength.cpxAbs (o : Word) : EncodedLength.Statement (.cpxAbs o) := fun _ _ _ => ⟨_, _, rfl, rfl⟩
theorem EncodedLength.sbcAbs (o : Word) : EncodedLength.Statement (.sbcAbs o) := fun _ _ _ => ⟨_, _, rfl, rfl⟩
theorem EncodedLength.incAbs (o : Word) : EncodedLength.Statement (.incAbs o) := fun _ _ _ => ⟨_, _, rfl, rfl⟩
theorem EncodedLength.sbcLong (a : Addr) : EncodedLength.Statement (.sbcLong a) := fun _ _ _ => ⟨_, _, rfl, rfl⟩
theorem EncodedLength.beq (r : Byte) : EncodedLength.Statement (.beq r) := fun _ _ _ => ⟨_, _, rfl, rfl⟩
theorem EncodedLength.sbcDpIndY (d : Byte) : EncodedLength.Statement (.sbcDpIndY d) := fun _ _ _ => ⟨_, _, rfl, rfl⟩
theorem EncodedLength.sbcDpInd (d : Byte) : EncodedLength.Statement (.sbcDpInd d) := fun _ _ _ => ⟨_, _, rfl, rfl⟩
theorem EncodedLength.sbcSrIndY (d : Byte) : EncodedLength.Statement (.sbcSrIndY d) := fun _ _ _ => ⟨_, _, rfl, rfl⟩
theorem EncodedLength.pea (v : Word) : EncodedLength.Statement (.pea v) := fun _ _ _ => ⟨_, _, rfl, rfl⟩
theorem EncodedLength.sbcDpX (d : Byte) : EncodedLength.Statement (.sbcDpX d) := fun _ _ _ => ⟨_, _, rfl, rfl⟩
theorem EncodedLength.incDpX (d : Byte) : EncodedLength.Statement (.incDpX d) := fun _ _ _ => ⟨_, _, rfl, rfl⟩
theorem EncodedLength.sbcDpIndLongY (d : Byte) : EncodedLength.Statement (.sbcDpIndLongY d) := fun _ _ _ => ⟨_, _, rfl, rfl⟩
theorem EncodedLength.sed : EncodedLength.Statement .sed := fun _ _ _ => ⟨_, _, rfl, rfl⟩
theorem EncodedLength.sbcAbsY (o : Word) : EncodedLength.Statement (.sbcAbsY o) := fun _ _ _ => ⟨_, _, rfl, rfl⟩
theorem EncodedLength.plx : EncodedLength.Statement .plx := fun _ _ _ => ⟨_, _, rfl, rfl⟩
theorem EncodedLength.xce : EncodedLength.Statement .xce := fun _ _ _ => ⟨_, _, rfl, rfl⟩
theorem EncodedLength.jsrIndX (o : Word) : EncodedLength.Statement (.jsrIndX o) := fun _ _ _ => ⟨_, _, rfl, rfl⟩
theorem EncodedLength.sbcAbsX (o : Word) : EncodedLength.Statement (.sbcAbsX o) := fun _ _ _ => ⟨_, _, rfl, rfl⟩
theorem EncodedLength.incAbsX (o : Word) : EncodedLength.Statement (.incAbsX o) := fun _ _ _ => ⟨_, _, rfl, rfl⟩
theorem EncodedLength.sbcLongX (a : Addr) : EncodedLength.Statement (.sbcLongX a) := fun _ _ _ => ⟨_, _, rfl, rfl⟩

end Sys2Proof.Laws
end

