-- ==== Sys2Proof/Laws/Step.lean ====
section
/-! SUPPORT. What one step can do, said once: the fetch always delivers an instruction, an instruction always answers a next
state, and a boundary takes one of the moves of R353. -/

namespace Sys2Proof.Machine

/-! The fetch. -/

@[simp] theorem State.fetch8_cpu (s : State) : s.fetch8.2.cpu = { s.cpu with pc := s.cpu.pc + 1 } := rfl

theorem State.fetchBytes_length (n : Nat) (s : State) : (State.fetchBytes n s).1.length = n := by
  induction n generalizing s with
  | zero => rfl
  | succ n ih => simp [State.fetchBytes, ih]

/-- Fetching changes only the program counter and the Bus. -/
structure FetchOnly (s t : State) : Prop where
  cpu : t.cpu = { s.cpu with pc := t.cpu.pc }
  irqLine : t.irqLine = s.irqLine
  resetReq : t.resetReq = s.resetReq
  env : t.env = s.env
  costDraws : t.costDraws = s.costDraws
  mem : t.bus.mem = s.bus.mem
  params : t.bus.params = s.bus.params
  patches : t.bus.patches = s.bus.patches

theorem FetchOnly.refl (s : State) : FetchOnly s s := ⟨rfl, rfl, rfl, rfl, rfl, rfl, rfl, rfl⟩

theorem FetchOnly.trans {s t u : State} (h : FetchOnly s t) (h' : FetchOnly t u) : FetchOnly s u where
  cpu := by rw [h'.cpu, h.cpu]
  irqLine := h'.irqLine.trans h.irqLine
  resetReq := h'.resetReq.trans h.resetReq
  env := h'.env.trans h.env
  costDraws := h'.costDraws.trans h.costDraws
  mem := h'.mem.trans h.mem
  params := h'.params.trans h.params
  patches := h'.patches.trans h.patches

theorem State.fetch8_only (s : State) : FetchOnly s s.fetch8.2 where
  cpu := rfl
  irqLine := rfl
  resetReq := rfl
  env := rfl
  costDraws := rfl
  mem := by simp [State.fetch8]
  params := by simp [State.fetch8]
  patches := by simp [State.fetch8]

theorem State.fetchBytes_only (n : Nat) (s : State) : FetchOnly s (State.fetchBytes n s).2 := by
  induction n generalizing s with
  | zero => exact .refl s
  | succ n ih => exact (s.fetch8_only).trans (ih _)

theorem State.fetchInstr_only (s : State) : FetchOnly s s.fetchInstr.2 :=
  (s.fetch8_only).trans (State.fetchBytes_only _ _)

/-- An opcode with exactly its operand bytes builds an instruction. -/
theorem Shape.build_isSome (m8 x8 : Bool) (sh : Shape) (bs : List Byte) (h : bs.length = sh.operandBytes m8 x8) :
    ∃ i, sh.build m8 x8 bs = some i := by
  cases sh <;> cases m8 <;> cases x8 <;> simp only [Shape.operandBytes, if_true, if_false, Bool.false_eq_true] at h <;>
    (first
      | (obtain rfl := List.length_eq_zero_iff.mp h; exact ⟨_, rfl⟩)
      | (obtain ⟨_, rfl⟩ := List.length_eq_one_iff.mp h; exact ⟨_, rfl⟩)
      | (obtain ⟨_, _, rfl⟩ := List.length_eq_two.mp h; exact ⟨_, rfl⟩)
      | (obtain ⟨_, _, _, rfl⟩ := List.length_eq_three.mp h; exact ⟨_, rfl⟩))

/-- What the fetch delivers always decodes, with no byte left over. -/
theorem State.fetchInstr_ok (s : State) : ∃ i, s.fetchInstr.1 = .ok (i, []) := by
  obtain ⟨i, hi⟩ := Shape.build_isSome s.cpu.m8 s.cpu.x8 (shapeOf s.fetch8.1)
    (State.fetchBytes ((shapeOf s.fetch8.1).operandBytes s.cpu.m8 s.cpu.x8) s.fetch8.2).1 (State.fetchBytes_length _ _)
  refine ⟨i, ?_⟩
  have hl := State.fetchBytes_length ((shapeOf s.fetch8.1).operandBytes s.cpu.m8 s.cpu.x8) s.fetch8.2
  simp only [State.fetchInstr, decode]
  rw [List.take_of_length_le (Nat.le_of_eq hl), hi, List.drop_eq_nil_of_le (Nat.le_of_eq hl)]

/-! The instruction step. -/

/-- Every instruction answers a next state (R363). -/
theorem exec_next (i : Instr) (s : State) : ∃ t, exec i s = .next t := by
  cases i <;> exact ⟨_, rfl⟩

/-- An instruction step is the meaning of the instruction that the fetch delivers, with its cost charged (R90, R39). -/
theorem instrStep_cases (s : State) :
    ∃ i t, s.fetchInstr.1 = .ok (i, []) ∧ exec i s.fetchInstr.2 = .next t ∧ instrStep s = .next t.charge := by
  obtain ⟨i, hi⟩ := s.fetchInstr_ok
  obtain ⟨t, ht⟩ := exec_next i s.fetchInstr.2
  exact ⟨i, t, hi, ht, by simp [instrStep, hi, ht]⟩

@[simp] theorem State.charge_bus (s : State) : s.charge.bus = s.bus := rfl
@[simp] theorem State.charge_env (s : State) : s.charge.env = s.env := rfl
@[simp] theorem State.charge_cpu (s : State) :
    s.charge.cpu = { s.cpu with budget := Config.stepCost s.costDraws } := rfl

/-- The moves at a boundary, each with when it is taken and what it answers (R353). -/
theorem boundaryStep_cases (s : State) :
    (∃ lows, s.resetReq = some lows ∧ boundaryStep s = .next (s.resetCpu lows)) ∨
    (s.resetReq = none ∧ boundaryStep s = .next s) ∨
    (s.resetReq = none ∧ s.cpu.run ≠ .stopped ∧ s.cpu.nmiReq = true ∧ boundaryStep s = .next (s.takeInterrupt .nmi).charge) ∨
    (s.resetReq = none ∧ s.cpu.run ≠ .stopped ∧ s.cpu.nmiReq = false ∧ s.irqLine = true ∧ flagGet s.cpu.p .i = false ∧
      boundaryStep s = .next (s.takeInterrupt .irq).charge) ∨
    (s.resetReq = none ∧ s.cpu.run = .waiting ∧ boundaryStep s = .next (s.setRun .running)) ∨
    (s.resetReq = none ∧ s.cpu.run = .running ∧ s.cpu.nmiReq = false ∧ boundaryStep s = instrStep s) := by
  cases hr : s.resetReq with
  | some lows => exact .inl ⟨lows, rfl, by simp [boundaryStep, State.move, hr]⟩
  | none =>
    refine .inr ?_
    cases hrun : s.cpu.run <;> cases hn : s.cpu.nmiReq <;> cases hl : s.irqLine <;> cases hi : flagGet s.cpu.p .i <;>
      simp [boundaryStep, State.move, hr, hrun, hn, hl, hi]

/-! The environment. -/

/-- What the events of a boundary keep: the script past this boundary, and the memory's canonical form. -/
theorem State.applyEvent_env (s : State) (ev : EnvEvent) : (s.applyEvent ev).env = s.env := by
  cases ev <;> simp [State.applyEvent, State.nmiEdge]
  split <;> rfl

theorem State.applyEvent_wf {s : State} (h : Memory.wf s.bus.mem) {ev : EnvEvent} (hev : ev.sound) : Memory.wf (s.applyEvent ev).bus.mem := by
  cases ev with
  | memory a v => exact Bus.place_wf h a v
  | vblank =>
    simp only [State.applyEvent]
    split <;> exact h
  | reset _ => exact h
  | nmiEdge => exact h
  | irqLevel _ => exact h
  | mailbox _ _ => exact h
  | pad _ => exact h
  | unitChange _ => exact h
  | loadState _ => exact h
  | loadBus b => exact hev

/-- A property that every event of a boundary keeps holds after all of them. -/
theorem State.applyEvents_induct {P : State → Prop} {events : List EnvEvent} {s : State} (h : P s)
    (step : ∀ t, ∀ ev ∈ events, P t → P (t.applyEvent ev)) : P (events.foldl State.applyEvent s) := by
  induction events generalizing s with
  | nil => exact h
  | cons ev rest ih =>
    exact ih (step s ev (by simp) h) fun t e he ht => step t e (by simp [he]) ht

/-- A boundary with a quiet script changes nothing. -/
theorem State.pollEnv_quiet {s : State} (h : s.env = []) : s.pollEnv = s := by
  simp [State.pollEnv, h]

/-- From a state that meets the invariant, `n` safe steps follow if the invariant makes every step safe. -/
theorem SafeRun.of_step (hs : ∀ s : State, s.Inv → NextWith State.Inv (step s)) (n : Nat) {s : State} (h : s.Inv) :
    SafeRun n s := by
  induction n generalizing s with
  | zero => exact h
  | succ n ih =>
    refine ⟨h, ?_⟩
    have hn := hs s h
    cases hstep : step s with
    | next t => rw [hstep] at hn; exact ih hn
    | fault r => rw [hstep] at hn; exact hn.elim
    | refused r => rw [hstep] at hn; exact hn.elim

end Sys2Proof.Machine
end

