-- ==== Sys2Proof/Tests/Slice0.lean ====
section
/-! SUPPORT. The model's own tests: ill-formed terms refused, words of the spec decoded, single instructions of the spec's examples
run, and a witness for the hypotheses of every statement. Expected results are the spec's. -/

namespace Sys2Proof.Tests

open Sys2Proof.Machine Sys2Proof.Claims

/-! Well-formedness: an immediate of the other width is refused (R94, R95). -/

theorem test_wf_ora_refuses_other_width : (Instr.oraImm (.b16 1)).wf true false = false ∧ (Instr.oraImm (.b8 1)).wf false true = false := by decide
theorem test_wf_and_refuses_other_width : (Instr.andImm (.b16 1)).wf true false = false ∧ (Instr.andImm (.b8 1)).wf false true = false := by decide
theorem test_wf_eor_refuses_other_width : (Instr.eorImm (.b16 1)).wf true false = false ∧ (Instr.eorImm (.b8 1)).wf false true = false := by decide
theorem test_wf_adc_refuses_other_width : (Instr.adcImm (.b16 1)).wf true false = false ∧ (Instr.adcImm (.b8 1)).wf false true = false := by decide
theorem test_wf_bit_refuses_other_width : (Instr.bitImm (.b16 1)).wf true false = false ∧ (Instr.bitImm (.b8 1)).wf false true = false := by decide
theorem test_wf_lda_refuses_other_width : (Instr.ldaImm (.b16 1)).wf true false = false ∧ (Instr.ldaImm (.b8 1)).wf false true = false := by decide
theorem test_wf_cmp_refuses_other_width : (Instr.cmpImm (.b16 1)).wf true false = false ∧ (Instr.cmpImm (.b8 1)).wf false true = false := by decide
theorem test_wf_sbc_refuses_other_width : (Instr.sbcImm (.b16 1)).wf true false = false ∧ (Instr.sbcImm (.b8 1)).wf false true = false := by decide
theorem test_wf_ldy_refuses_other_width : (Instr.ldyImm (.b16 1)).wf false true = false ∧ (Instr.ldyImm (.b8 1)).wf true false = false := by decide
theorem test_wf_ldx_refuses_other_width : (Instr.ldxImm (.b16 1)).wf false true = false ∧ (Instr.ldxImm (.b8 1)).wf true false = false := by decide
theorem test_wf_cpy_refuses_other_width : (Instr.cpyImm (.b16 1)).wf false true = false ∧ (Instr.cpyImm (.b8 1)).wf true false = false := by decide
theorem test_wf_cpx_refuses_other_width : (Instr.cpxImm (.b16 1)).wf false true = false ∧ (Instr.cpxImm (.b8 1)).wf true false = false := by decide

/-! Decoding: words written out from the rules' encodings, at least one for each family. -/

/-- R140. -/
theorem test_decode_lda_imm : decode true true [0xA9, 0x80, 0xEE] = .ok (.ldaImm (.b8 0x80), [0xEE]) := rfl
/-- R140, R91. -/
theorem test_decode_lda_imm16 : decode false true [0xA9, 0x34, 0x12, 0xEE] = .ok (.ldaImm (.b16 0x1234), [0xEE]) := rfl
/-- R141. -/
theorem test_decode_ldx_dpY : decode true true [0xB6, 0x21, 0xEE] = .ok (.ldxDpY 0x21, [0xEE]) := rfl
/-- R143. -/
theorem test_decode_sta_long : decode true true [0x8F, 0x56, 0x34, 0x12, 0xEE] = .ok (.staLong 0x123456, [0xEE]) := rfl
/-- R146. -/
theorem test_decode_stz_absX : decode true true [0x9E, 0x00, 0x20, 0xEE] = .ok (.stzAbsX 0x2000, [0xEE]) := rfl
/-- R170. -/
theorem test_decode_tcs : decode true true [0x1B, 0xEE] = .ok (.tcs, [0xEE]) := rfl
/-- R184. -/
theorem test_decode_adc_srIndY : decode true true [0x73, 0x05, 0xEE] = .ok (.adcSrIndY 0x05, [0xEE]) := rfl
/-- R185. -/
theorem test_decode_sbc_dpIndLongY : decode true true [0xF7, 0x10, 0xEE] = .ok (.sbcDpIndLongY 0x10, [0xEE]) := rfl
/-- R189. -/
theorem test_decode_cpy_imm16 : decode true false [0xC0, 0x03, 0x01, 0xEE] = .ok (.cpyImm (.b16 0x0103), [0xEE]) := rfl
/-- R191. -/
theorem test_decode_dec_abs : decode false true [0xCE, 0x00, 0x01, 0xEE] = .ok (.decAbs 0x0100, [0xEE]) := rfl
/-- R213. -/
theorem test_decode_bit_imm : decode true true [0x89, 0x40, 0xEE] = .ok (.bitImm (.b8 0x40), [0xEE]) := rfl
/-- R215. -/
theorem test_decode_trb_dp : decode true true [0x14, 0x10, 0xEE] = .ok (.trbDp 0x10, [0xEE]) := rfl
/-- R219. -/
theorem test_decode_ror_absX : decode true true [0x7E, 0xCD, 0xAB, 0xEE] = .ok (.rorAbsX 0xABCD, [0xEE]) := rfl
/-- R244. -/
theorem test_decode_bvs : decode true true [0x70, 0x7F, 0xEE] = .ok (.bvs 0x7F, [0xEE]) := rfl
/-- R253. -/
theorem test_decode_jsr_indX : decode true true [0xFC, 0x34, 0x12, 0xEE] = .ok (.jsrIndX 0x1234, [0xEE]) := rfl
/-- R256. -/
theorem test_decode_rtl : decode true true [0x6B, 0xEE] = .ok (.rtl, [0xEE]) := rfl
/-- R285. -/
theorem test_decode_per : decode true true [0x62, 0x0D, 0x00, 0xEE] = .ok (.per 0x000D, [0xEE]) := rfl
/-- R281. -/
theorem test_decode_plb : decode true true [0xAB, 0xEE] = .ok (.plb, [0xEE]) := rfl
/-- R308. -/
theorem test_decode_sep : decode true true [0xE2, 0x30, 0xEE] = .ok (.sep 0x30, [0xEE]) := rfl
/-- R309. -/
theorem test_decode_xce : decode true true [0xFB, 0xEE] = .ok (.xce, [0xEE]) := rfl
/-- R321. -/
theorem test_decode_cop : decode true true [0x02, 0x05, 0xEE] = .ok (.cop 0x05, [0xEE]) := rfl
/-- R327. -/
theorem test_decode_stp : decode true true [0xDB, 0xEE] = .ok (.stp, [0xEE]) := rfl
/-- R340: destination bank first. -/
theorem test_decode_mvn_banks : decode true true [0x54, 0x7F, 0x7E, 0xEE] = .ok (.mvn 0x7F 0x7E, [0xEE]) := rfl
/-- R341. -/
theorem test_decode_mvp_banks : decode true true [0x44, 0x01, 0x02, 0xEE] = .ok (.mvp 0x01 0x02, [0xEE]) := rfl

/-- A missing operand byte is refused by name. -/
theorem test_decode_refuses_missing_bytes :
    decode true true [] = .error .noBytes ∧ decode true true [0xAD, 0x00] = .error .operandBytesMissing := ⟨rfl, rfl⟩

/-- The word of a table row decodes to the row's instruction. -/
theorem test_decode_table_word : decodeTableWord 8 0xA9 = some (.ldaImm (.b8 0x00)) ∧ decodeTableWord 16 0x80A9 = some (.ldaImm (.b8 0x80)) := ⟨rfl, rfl⟩

/-! Single instructions: the examples of the rules. -/

/-- A state with these registers and memory cells. -/
def st (c : Cpu) (m : Memory) : State := { State.reset with cpu := c, bus := { Bus.reset with mem := m } }

/-- Plain memory as the parameter of the Bus: every address is a RAM cell of its own, the memory that spec/95_test_vectors.md
part 2 assumes. -/
def plainMap : List Region := [{ bankLo := 0x00, bankHi := 0xFF, offLo := 0x0000, offHi := 0xFFFF, target := .wram 0, stride := 0x10000 }]

/-- A state over plain memory. -/
def plain (c : Cpu) (m : Memory) : State :=
  { State.reset with cpu := c, bus := { Bus.reset with mem := m, params := { Bus.reset.params with map := plainMap } } }

/-- Emulation mode as after reset. -/
def emu : Cpu := Cpu.reset

/-- Native mode with status `p`. -/
def nat (p : Byte) : Cpu := { Cpu.reset with e := false, p := p }

/-- The CPU after an instruction. -/
def cpuAfter (i : Instr) (s : State) : Cpu :=
  match exec i s with
  | .next t => t.cpu
  | .fault _ => s.cpu
  | .refused _ => s.cpu

/-- A memory cell after an instruction. -/
def cellAfter (i : Instr) (s : State) (k : Nat) : Byte :=
  match exec i s with
  | .next t => t.bus.mem.read k
  | .fault _ => 0
  | .refused _ => 0

/-- R140. -/
theorem test_lda_keeps_AH :
    let c := cpuAfter (.ldaImm (.b8 0x80)) (st { emu with a := 0x1234 } [])
    c.a = 0x1280 ∧ c.p = 0xB4 := by decide

/-- R141. -/
theorem test_ldx_x8 :
    let c := cpuAfter (.ldxImm (.b8 0xFF)) (st emu [])
    c.x = 0x00FF ∧ c.p = 0xB4 := by decide

/-- R142. -/
theorem test_ldy_x16 :
    let c := cpuAfter (.ldyImm (.b16 0x0000)) (st (nat 0x00) [])
    c.y = 0x0000 ∧ c.p = 0x02 := by decide

/-- R62. -/
theorem test_lda16_wraps_bank :
    let c := cpuAfter (.ldaAbs 0xFFFF) (st { nat 0x00 with db := 0x7E } [(0x7E0000, 0x12), (0x7EFFFF, 0x34)])
    c.a = 0x1234 := by decide

/-- R143. -/
theorem test_sta16 :
    let s := st { nat 0x00 with a := 0xBEEF, db := 0x7E } []
    cellAfter (.staAbs 0x0010) s 0x7E0010 = 0xEF ∧ cellAfter (.staAbs 0x0010) s 0x7E0011 = 0xBE := by decide

/-- R144. -/
theorem test_stx8 :
    cellAfter (.stxDp 0x20) (st { emu with x := 0x0042 } []) 0x7E0020 = 0x42 := by decide

/-- R145. -/
theorem test_sty16 :
    let s := st { nat 0x00 with y := 0x1234 } []
    cellAfter (.styAbs 0x0300) s 0x7E0300 = 0x34 ∧ cellAfter (.styAbs 0x0300) s 0x7E0301 = 0x12 := by decide

/-- R146. -/
theorem test_stz16 :
    let s := st { nat 0x00 with db := 0x7E, x := 0x0002 } [(0x7E2001, 0x11), (0x7E2002, 0x22), (0x7E2003, 0x33), (0x7E2004, 0x44)]
    cellAfter (.stzAbsX 0x2000) s 0x7E2002 = 0x00 ∧ cellAfter (.stzAbsX 0x2000) s 0x7E2003 = 0x00 ∧
    cellAfter (.stzAbsX 0x2000) s 0x7E2001 = 0x11 ∧ cellAfter (.stzAbsX 0x2000) s 0x7E2004 = 0x44 := by decide

/-- R160. -/
theorem test_tax_copies_hidden_byte :
    let c := cpuAfter (.tax) (st { nat 0x20 with a := 0x12F0 } [])
    c.x = 0x12F0 ∧ c.p = 0x20 := by decide

/-- R162. -/
theorem test_txa_m16_x8 :
    let c := cpuAfter (.txa) (st { nat 0x10 with x := 0x0090, a := 0x1111 } [])
    c.a = 0x0090 ∧ c.p = 0x10 := by decide

/-- R166. -/
theorem test_tsx_emulation :
    let c := cpuAfter (.tsx) (st { emu with s := 0x01F3 } [])
    c.x = 0x00F3 ∧ c.p = 0xB4 := by decide

/-- R167. -/
theorem test_txs_emulation :
    let c := cpuAfter (.txs) (st { emu with x := 0x0080 } [])
    c.s = 0x0180 ∧ c.p = 0x34 := by decide

/-- R169. -/
theorem test_tdc_writes_AH :
    let c := cpuAfter (.tdc) (st { emu with d := 0x2100 } [])
    c.a = 0x2100 ∧ c.p = 0x34 := by decide

/-- R172. -/
theorem test_xba :
    let c := cpuAfter (.xba) (st { emu with a := 0x12F0 } [])
    c.a = 0xF012 ∧ c.p = 0x34 := by decide

/-- R184. -/
theorem test_adc_overflow :
    let c := cpuAfter (.adcImm (.b8 0x50)) (st { emu with a := 0x0050 } [])
    c.a = 0x00A0 ∧ c.p = 0xF4 := by decide

/-- R185. -/
theorem test_sbc_borrow :
    let c := cpuAfter (.sbcImm (.b8 0xF0)) (st { emu with a := 0x0050, p := 0x35 } [])
    c.a = 0x0060 ∧ c.p = 0x34 := by decide

/-- R182: 58 + 46 + 1 = 105. -/
theorem test_adc_decimal :
    let c := cpuAfter (.adcImm (.b8 0x46)) (st { emu with a := 0x0058, p := 0x3D } [])
    c.a = 0x0005 ∧ c.p = 0x7D := by decide

/-- R183: 12 - 21 borrows. -/
theorem test_sbc_decimal :
    let c := cpuAfter (.sbcImm (.b8 0x21)) (st { emu with a := 0x0012, p := 0x3D } [])
    c.a = 0x0091 ∧ c.p = 0xBC := by decide

/-- R187. -/
theorem test_cmp_less :
    let c := cpuAfter (.cmpImm (.b8 0x20)) (st { emu with a := 0x0010 } [])
    c.a = 0x0010 ∧ c.p = 0xB4 := by decide

/-- R188. -/
theorem test_cpx_equal :
    let c := cpuAfter (.cpxImm (.b16 0x1000)) (st { nat 0x00 with x := 0x1000 } [])
    c.p = 0x03 := by decide

/-- R190. -/
theorem test_inc_wraps_AL :
    let c := cpuAfter (.incA) (st { emu with a := 0x12FF } [])
    c.a = 0x1200 ∧ c.p = 0x36 := by decide

/-- R191. -/
theorem test_dec_memory16 :
    let s := st { nat 0x00 with db := 0x7E } []
    cellAfter (.decAbs 0x0000) s 0x7E0000 = 0xFF ∧ cellAfter (.decAbs 0x0000) s 0x7E0001 = 0xFF ∧ (cpuAfter (.decAbs 0x0000) s).p = 0x80 := by decide

/-- R192. -/
theorem test_inx_wraps :
    let c := cpuAfter (.inx) (st { emu with x := 0x00FF } [])
    c.x = 0x0000 ∧ c.p = 0x36 := by decide

/-- R194. -/
theorem test_dex_wraps :
    let c := cpuAfter (.dex) (st emu [])
    c.x = 0x00FF ∧ c.p = 0xB4 := by decide

/-- R210. -/
theorem test_and :
    let c := cpuAfter (.andImm (.b8 0x3C)) (st { emu with a := 0x00F0 } [])
    c.a = 0x0030 ∧ c.p = 0x34 := by decide

/-- R211. -/
theorem test_ora16 :
    let c := cpuAfter (.oraImm (.b16 0x8001)) (st { nat 0x00 with a := 0x0F00 } [])
    c.a = 0x8F01 ∧ c.p = 0x80 := by decide

/-- R213. -/
theorem test_bit_memory :
    let c := cpuAfter (.bitDp 0x10) (st { emu with a := 0x0001 } [(0x7E0010, 0xC0)])
    c.p = 0xF6 := by decide

/-- R214. -/
theorem test_tsb :
    let s := st { emu with a := 0x0003 } [(0x7E0010, 0x04)]
    cellAfter (.tsbDp 0x10) s 0x7E0010 = 0x07 ∧ (cpuAfter (.tsbDp 0x10) s).p = 0x36 := by decide

/-- R215. -/
theorem test_trb :
    let s := st { emu with a := 0x0003 } [(0x7E0010, 0x07)]
    cellAfter (.trbDp 0x10) s 0x7E0010 = 0x04 ∧ (cpuAfter (.trbDp 0x10) s).p = 0x34 := by decide

/-- R216. -/
theorem test_asl :
    let c := cpuAfter (.aslA) (st { emu with a := 0x0081 } [])
    c.a = 0x0002 ∧ c.p = 0x35 := by decide

/-- R217. -/
theorem test_lsr16 :
    let c := cpuAfter (.lsrA) (st { nat 0x00 with a := 0x8001 } [])
    c.a = 0x4000 ∧ c.p = 0x01 := by decide

/-- R218. -/
theorem test_rol :
    let c := cpuAfter (.rolA) (st { emu with a := 0x0080, p := 0x35 } [])
    c.a = 0x0001 ∧ c.p = 0x35 := by decide

/-- R219. -/
theorem test_ror :
    let c := cpuAfter (.rorA) (st { emu with a := 0x0001 } [])
    c.a = 0x0000 ∧ c.p = 0x37 := by decide

/-- R243. -/
theorem test_bvc_back :
    let c := cpuAfter (.bvc 0x80) (st { emu with pc := 0x8002 } [])
    c.pc = 0x7F82 := by decide

/-- R245. -/
theorem test_bcc_wraps_bank :
    let c := cpuAfter (.bcc 0x05) (st { emu with pc := 0x0000, pb := 0x12 } [])
    c.pc = 0x0005 ∧ c.pb = 0x12 := by decide

/-- R250. -/
theorem test_brl :
    let c := cpuAfter (.brl 0xFFFD) (st { emu with pc := 0x8003 } [])
    c.pc = 0x8000 := by decide

/-- R251. -/
theorem test_jmp_ind :
    let c := cpuAfter (.jmpInd 0x1234) (st { emu with pb := 0x05 } [(0x7E1235, 0x90)])
    c.pc = 0x9000 ∧ c.pb = 0x05 := by decide

/-- R252. -/
theorem test_jml :
    let c := cpuAfter (.jmlLong 0x123456) (st emu [])
    c.pb = 0x12 ∧ c.pc = 0x3456 := by decide

/-- R253. -/
theorem test_jsr :
    let s := st { emu with pc := 0x8003 } []
    cellAfter (.jsrAbs 0x1234) s 0x7E01FF = 0x80 ∧ cellAfter (.jsrAbs 0x1234) s 0x7E01FE = 0x02 ∧
    (cpuAfter (.jsrAbs 0x1234) s).s = 0x01FD ∧ (cpuAfter (.jsrAbs 0x1234) s).pc = 0x1234 := by decide

/-- R255. -/
theorem test_rts :
    let c := cpuAfter (.rts) (st { emu with s := 0x01FD } [(0x7E01FE, 0x02), (0x7E01FF, 0x80)])
    c.pc = 0x8003 ∧ c.s = 0x01FF := by decide

/-- R256. -/
theorem test_rtl :
    let c := cpuAfter (.rtl) (st { emu with s := 0x01FC, pb := 0x12 } [(0x7E01FD, 0x03), (0x7E01FE, 0x80)])
    c.pc = 0x8004 ∧ c.pb = 0x00 ∧ c.s = 0x01FF := by decide

/-- R270. -/
theorem test_pha16 :
    let s := st { nat 0x00 with a := 0x1234, s := 0x1FFF } []
    cellAfter .pha s 0x7E1FFF = 0x12 ∧ cellAfter .pha s 0x7E1FFE = 0x34 ∧ (cpuAfter .pha s).s = 0x1FFD := by decide

/-- R275. -/
theorem test_phd_wraps_page :
    let s := st { emu with d := 0x2100, s := 0x0100 } [(0x7E01FF, 0x99)]
    cellAfter .phd s 0x7E0100 = 0x21 ∧ cellAfter .phd s 0x7E01FF = 0x00 ∧ (cpuAfter .phd s).s = 0x01FE := by decide

/-- R277. -/
theorem test_pla8 :
    let c := cpuAfter (.pla) (st { emu with s := 0x01FE, a := 0x1200 } [(0x7E01FF, 0x80)])
    c.a = 0x1280 ∧ c.s = 0x01FF ∧ c.p = 0xB4 := by decide

/-- R278. -/
theorem test_plp_clears_XH :
    let c := cpuAfter (.plp) (st { nat 0x00 with x := 0x1234, s := 0x01FE } [(0x7E01FF, 0x10)])
    c.p = 0x10 ∧ c.x = 0x0034 := by decide

/-- R282. -/
theorem test_pld :
    let c := cpuAfter (.pld) (st { nat 0x00 with s := 0x01FD } [(0x7E01FF, 0x80)])
    c.d = 0x8000 ∧ c.p = 0x80 := by decide

/-- R284. -/
theorem test_pei :
    let s := st { nat 0x00 with s := 0x1FFF } [(0x7E0010, 0xCD), (0x7E0011, 0xAB)]
    cellAfter (.pei 0x10) s 0x7E1FFF = 0xAB ∧ cellAfter (.pei 0x10) s 0x7E1FFE = 0xCD := by decide

/-- R285. -/
theorem test_per :
    let s := st { nat 0x00 with s := 0x1FFF, pc := 0x8003 } []
    cellAfter (.per 0x000D) s 0x7E1FFF = 0x80 ∧ cellAfter (.per 0x000D) s 0x7E1FFE = 0x10 := by decide

/-- R306. -/
theorem test_clv :
    let c := cpuAfter (.clv) (st { emu with p := 0x74 } [])
    c.p = 0x34 := by decide

/-- R307. -/
theorem test_rep :
    let c := cpuAfter (.rep 0x30) (st (nat 0x34) [])
    c.p = 0x04 := by decide

/-- R308. -/
theorem test_sep :
    let c := cpuAfter (.sep 0x30) (st { nat 0x00 with a := 0x1234, x := 0x5678 } [])
    c.p = 0x30 ∧ c.a = 0x0034 ∧ c.x = 0x0078 := by decide

/-- R309. -/
theorem test_xce_leaves :
    let c := cpuAfter (.xce) (st emu [])
    c.e = false ∧ c.p = 0x35 := by decide

/-- R309. -/
theorem test_xce_enters :
    let c := cpuAfter (.xce) (st { nat 0x01 with a := 0x1234, s := 0x1FF0 } [])
    c.e = true ∧ c.p = 0x30 ∧ c.a = 0x0034 ∧ c.s = 0x01F0 := by decide

/-- R320. -/
theorem test_brk_emulation :
    let s := st { emu with p := 0x30, pc := 0x8002 } [(0x00FFFE, 0x00 + 0x34), (0x00FFFF, 0x12)]
    cellAfter (.brk 0x00) s 0x7E01FF = 0x80 ∧ cellAfter (.brk 0x00) s 0x7E01FE = 0x02 ∧ cellAfter (.brk 0x00) s 0x7E01FD = 0x30 ∧
    (cpuAfter (.brk 0x00) s).s = 0x01FC ∧ (cpuAfter (.brk 0x00) s).p = 0x34 ∧ (cpuAfter (.brk 0x00) s).pc = 0x1234 := by decide

/-- R321. -/
theorem test_cop_native :
    let s := st { nat 0x00 with s := 0x1FFF, pb := 0x01, pc := 0x9002 } [(0x00FFE4, 0x78), (0x00FFE5, 0x56)]
    cellAfter (.cop 0x05) s 0x7E1FFF = 0x01 ∧ cellAfter (.cop 0x05) s 0x7E1FFE = 0x90 ∧ cellAfter (.cop 0x05) s 0x7E1FFD = 0x02 ∧
    (cpuAfter (.cop 0x05) s).s = 0x1FFB ∧ (cpuAfter (.cop 0x05) s).p = 0x04 ∧ (cpuAfter (.cop 0x05) s).pb = 0x00 ∧
    (cpuAfter (.cop 0x05) s).pc = 0x5678 := by decide

/-- R322. -/
theorem test_rti_emulation :
    let c := cpuAfter (.rti) (st { emu with s := 0x01FC } [(0x7E01FD, 0x30), (0x7E01FE, 0x02), (0x7E01FF, 0x80)])
    c.p = 0x30 ∧ c.pc = 0x8002 ∧ c.s = 0x01FF := by decide

/-- R326. -/
theorem test_wai :
    let c := cpuAfter (.wai) (st emu [])
    c.run = .waiting := by decide

/-- R340. -/
theorem test_mvn_registers :
    let c := cpuAfter (.mvn 0x7F 0x7E) (st { nat 0x00 with a := 0x0002, x := 0x1000, y := 0x2000 } [(0x7E1000, 0x11), (0x7E1001, 0x22), (0x7E1002, 0x33)])
    c.a = 0xFFFF ∧ c.x = 0x1003 ∧ c.y = 0x2003 ∧ c.db = 0x7F := by decide

/-- R340. -/
theorem test_mvn_bytes :
    let s := st { nat 0x00 with a := 0x0002, x := 0x1000, y := 0x2000 } [(0x7E1000, 0x11), (0x7E1001, 0x22), (0x7E1002, 0x33)]
    cellAfter (.mvn 0x7F 0x7E) s 0x7F2000 = 0x11 ∧ cellAfter (.mvn 0x7F 0x7E) s 0x7F2002 = 0x33 ∧ cellAfter (.mvn 0x7F 0x7E) s 0x7F2003 = 0x00 := by decide

/-- R341. -/
theorem test_mvp_overlap :
    let s := st { nat 0x00 with a := 0x0001, x := 0x1001, y := 0x1002 } [(0x7E1000, 0xAA), (0x7E1001, 0xBB)]
    cellAfter (.mvp 0x7E 0x7E) s 0x7E1002 = 0xBB ∧ cellAfter (.mvp 0x7E 0x7E) s 0x7E1001 = 0xAA ∧
    (cpuAfter (.mvp 0x7E 0x7E) s).x = 0x0FFF ∧ (cpuAfter (.mvp 0x7E 0x7E) s).y = 0x1000 := by decide

/-- R374. -/
theorem test_multiply_unit :
    (((Bus.reset.write 0x004202 0x04).write 0x004203 0x05).read16 0x004216).1 = 0x0014 := by decide

/-- R375. -/
theorem test_divide_unit :
    let b := (Bus.reset.write16 0x004204 0x2710).write 0x004206 0x05
    (b.read16 0x004214).1 = 0x07D0 ∧ (b.read16 0x004216).1 = 0x0000 := by decide

/-- spec/95_test_vectors.md LS-5. -/
theorem test_vector_LS5 :
    let c := cpuAfter (.ldaLongX 0x123456) (plain { nat 0x00 with x := 0x0001 } [(0x123457, 0x55), (0x123458, 0x66)])
    c.a = 0x6655 ∧ c.p = 0x00 := by decide

/-- spec/95_test_vectors.md LG-4. -/
theorem test_vector_LG4 :
    let c := cpuAfter (.andAbs 0x2000) (plain { nat 0x00 with a := 0xFFFF } [(0x002001, 0x80)])
    c.a = 0x8000 ∧ c.p = 0x80 := by decide

/-- spec/95_test_vectors.md LG-8. -/
theorem test_vector_LG8 :
    (cpuAfter (.bitAbs 0x2000) (plain (nat 0x00) [(0x002001, 0xC0)])).p = 0xC2 := by decide

/-- spec/95_test_vectors.md LG-11. -/
theorem test_vector_LG11 :
    let s := plain { nat 0x00 with a := 0x00FF } [(0x003001, 0xFF)]
    (cpuAfter (.tsbAbs 0x3000) s).p = 0x02 ∧ cellAfter (.tsbAbs 0x3000) s 0x003000 = 0xFF ∧ cellAfter (.tsbAbs 0x3000) s 0x003001 = 0xFF := by decide

/-- spec/95_test_vectors.md CT-14. -/
theorem test_vector_CT14 :
    let c := cpuAfter (.jmpIndX 0x2000) (plain { nat 0x00 with pb := 0x05, x := 0x0002 } [(0x052002, 0x78), (0x052003, 0x56)])
    c.pc = 0x5678 ∧ c.pb = 0x05 := by decide

/-! Steps: a placed word runs as the first instruction after reset; the vector default. -/

/-- The register fields of a step's answer. -/
def stepCpu (s : State) : Cpu :=
  match step s with
  | .next t => t.cpu
  | .fault _ => s.cpu
  | .refused _ => s.cpu

theorem test_step_runs_placed_word : (stepCpu (State.reset.withFetchWord 16 0x80A9)).a = 0x0080 ∧
    (stepCpu (State.reset.withFetchWord 16 0x80A9)).pc = 0x8002 := by decide

/-- R401: a reset takes the word at `$00:FFFC`. -/
theorem test_reset_vector :
    (stepCpu { st (nat 0x00) [(0x00FFFC, 0x34), (0x00FFFD, 0x92)] with resetReq := some ⟨0x01, 0x02, 0x03⟩ }).pc = 0x9234 ∧
    (stepCpu { st (nat 0x00) [(0x00FFFC, 0x34), (0x00FFFD, 0x92)] with resetReq := some ⟨0x01, 0x02, 0x03⟩ }).a = 0x0001 := by decide

/-- Addresses that name these cells start no transfer and name no other cell. -/
theorem cells_apart {as : List Addr} {c : BusParams} {ks : List Nat} {k : Nat} (h : as.map (ramCellOf c) = ks.map some)
    (hk : k ∉ ks) : (∀ a ∈ as, isGdmaTrigger c a = false) ∧ ∀ a ∈ as, ramCellOf c a ≠ some k := by
  have hm : ∀ a ∈ as, ramCellOf c a ∈ ks.map some := fun a ha => h ▸ List.mem_map_of_mem ha
  refine ⟨fun a ha => ?_, fun a ha e => ?_⟩
  · obtain ⟨k', -, e⟩ := List.mem_map.mp (hm a ha)
    exact not_gdma_of_ramCellOf e.symm
  · have := hm a ha
    rw [e] at this
    exact hk (by simpa using this)

/-! Witnesses: for each statement with hypotheses, a concrete state and operands that meet them all. -/

theorem witness_EncodingRoundTrip :
    (Instr.ldaImm (.b8 0x80)).wf true true = true ∧ (Instr.ldaImm (.b16 0x8000)).wf false true = true ∧ (Instr.cpxImm (.b16 0)).wf true false = true := by decide

theorem witness_EveryOpcodeDecodes :
    decode true true [0x54, 0x7F, 0x7E, 0x00] = .ok (.mvn 0x7F 0x7E, [0x00]) := rfl

theorem witness_StepRunsInstructionAtPC :
    let s := st { emu with pc := 0x0010 } [(0x7E0010, 0xA9), (0x7E0011, 0x80)]
    InstructionRuns s ∧ (Instr.ldaImm (.b8 0x80)).wf s.cpu.m8 s.cpu.x8 = true ∧
      (readSeq (encode (.ldaImm (.b8 0x80))).length s.cpu.pb.toNat s.cpu.pc.toNat s.bus).1 = encode (.ldaImm (.b8 0x80)) := ⟨⟨rfl, rfl, rfl, rfl, .inl rfl⟩, by decide, by decide⟩

theorem witness_StepRunsInstructionAtPC_wraps_bank :
    let s := { st { emu with pc := 0xFFFF } [(0x000000 + 0x00FFFF, 0xA9), (0x7E0000, 0x80)] with irqLine := true }
    InstructionRuns s ∧ (Instr.ldaImm (.b8 0x80)).wf s.cpu.m8 s.cpu.x8 = true ∧
      (readSeq (encode (.ldaImm (.b8 0x80))).length s.cpu.pb.toNat s.cpu.pc.toNat s.bus).1 = encode (.ldaImm (.b8 0x80)) := ⟨⟨rfl, rfl, rfl, rfl, .inr (by decide)⟩, by decide, by decide⟩

theorem witness_StepKeepsInvariant :
    let s := st { emu with pc := 0x0010 } [(0x7E0010, 0xA9), (0x7E0011, 0x80)]
    s.Inv ∧ ∃ t, step s = .next t := ⟨⟨⟨by decide, by decide⟩, by decide, by intro _ h; cases h⟩, _, rfl⟩

theorem witness_ResetStepLeavesResetValues :
    let s := { st { nat 0x00 with run := .stopped } [] with resetReq := some ⟨0xFF, 0x01, 0x02⟩ }
    Quiet s ∧ s.resetReq = some ⟨0xFF, 0x01, 0x02⟩ := ⟨rfl, rfl⟩

theorem witness_HardwareInterruptEntry :
    let s := { st { nat 0x04 with run := .waiting, nmiReq := true } [] with irqLine := true }
    let s' := { st (nat 0x00) [] with irqLine := true }
    (Quiet s ∧ s.resetReq = none ∧ s.cpu.run ≠ .stopped ∧ s.cpu.nmiReq = true) ∧
    (Quiet s' ∧ s'.resetReq = none ∧ s'.cpu.run ≠ .stopped ∧ s'.cpu.nmiReq = false ∧ s'.irqLine = true ∧ bitOf s'.cpu.p 2 = false) := ⟨⟨rfl, rfl, by decide, rfl⟩, rfl, rfl, by decide, rfl, rfl, by decide⟩

theorem witness_WaitAndStopSteps :
    let s := st { emu with run := .stopped, nmiReq := true } []
    let s' := st { emu with run := .waiting } []
    let s'' := { st { emu with run := .waiting } [] with irqLine := true }
    (Quiet s ∧ s.resetReq = none ∧ s.cpu.run = .stopped) ∧
    (Quiet s' ∧ s'.resetReq = none ∧ s'.cpu.run = .waiting ∧ s'.cpu.nmiReq = false ∧ s'.irqLine = false) ∧
    (Quiet s'' ∧ s''.resetReq = none ∧ s''.cpu.run = .waiting ∧ s''.cpu.nmiReq = false ∧ s''.irqLine = true ∧ bitOf s''.cpu.p 2 = true) := ⟨⟨rfl, rfl, rfl⟩, ⟨rfl, rfl, rfl, rfl, rfl⟩, rfl, rfl, rfl, rfl, rfl, by decide⟩

theorem witness_EventsLandBeforeTheStep :
    let s := fun ev => { State.reset with env := [[ev, .irqLevel true], []] }
    (s (.reset ⟨1, 2, 3⟩)).env = (.reset ⟨1, 2, 3⟩ :: [.irqLevel true]) :: [[]] ∧
    (s .nmiEdge).env = (.nmiEdge :: [.irqLevel true]) :: [[]] ∧ (s .vblank).env = (.vblank :: [.irqLevel true]) :: [[]] ∧
    (s (.irqLevel false)).env = (.irqLevel false :: [.irqLevel true]) :: [[]] ∧
    ((s (.memory 0x000010 0x55)).env = (.memory 0x000010 0x55 :: [.irqLevel true]) :: [[]] ∧ Memory.wf (s (.memory 0x000010 0x55)).bus.mem ∧
      cellOf Bus.reset.params 0x000010 = some 0x7E0010 ∧ cellOf Bus.reset.params 0x002140 = none) ∧
    (s (.mailbox 3 0x55)).env = (.mailbox 3 0x55 :: [.irqLevel true]) :: [[]] ∧ (s (.pad 0x8001)).env = (.pad 0x8001 :: [.irqLevel true]) :: [[]] ∧
    (s (.unitChange 1)).env = (.unitChange 1 :: [.irqLevel true]) :: [[]] ∧
    (s (.loadState emu)).env = (.loadState emu :: [.irqLevel true]) :: [[]] ∧
    (s (.loadBus Bus.reset)).env = (.loadBus Bus.reset :: [.irqLevel true]) :: [[]] := ⟨rfl, rfl, rfl, rfl, ⟨rfl, by decide, by decide +kernel, by decide +kernel⟩, rfl, rfl, rfl, rfl, rfl⟩

theorem witness_RegisterWriters :
    (∃ t, exec .nop State.reset = .next t ∧ mnem .nop ∉ [.tcd, .pld] ∧ mnem .nop ∉ [.plb, .mvn, .mvp] ∧
      mnem .nop ∉ [.jml, .jsl, .rtl, .rti, .brk, .cop] ∧ mnem .nop ≠ .xce ∧ mnem .nop ∉ [.wai, .stp]) ∧
    ∃ t, exec .rti State.reset = .next t ∧ mnem .rti = .rti ∧ State.reset.cpu.e = true := ⟨⟨_, rfl, by decide, by decide, by decide, by decide, by decide⟩, _, rfl, rfl, rfl⟩

theorem witness_FlagWriters :
    (∀ f : Machine.Flag, ∃ i t, exec i State.reset = .next t ∧ ¬MayWriteFlag f i) ∧
    ∃ t, exec (.bitImm (.b8 0xC0)) State.reset = .next t ∧ ¬MayWriteFlag .n (.bitImm (.b8 0xC0)) ∧ ¬MayWriteFlag .v (.bitImm (.b8 0xC0)) := ⟨fun f => ⟨.staDp 0x10, _, rfl, fun h => absurd h.1 (by cases f <;> decide)⟩, _, rfl, fun h => (h.2 ⟨_, rfl⟩).1 rfl, fun h => (h.2 ⟨_, rfl⟩).2 rfl⟩

theorem witness_MemoryWriters :
    (∃ t, exec (.ldaDpIndY 0x10) State.reset = .next t ∧ ¬MayStore (.ldaDpIndY 0x10)) ∧ ∃ t, exec .rorA State.reset = .next t ∧ ¬MayStore .rorA := ⟨⟨_, rfl, fun h => absurd h.1 (by decide)⟩, _, rfl, fun h => h.2 (.tail _ (.tail _ (.tail _ (.tail _ (.tail _ (.head _))))))⟩

theorem witness_HiddenAccumulatorByte :
    (∃ t, exec .incA State.reset = .next t ∧ State.reset.cpu.m8 = true ∧
      mnem .incA ∉ [.rep, .sep, .plp, .rti, .xce, .xba, .tdc, .tsc, .mvn, .mvp]) ∧
    (∃ t, exec (.sep 0x20) (st { nat 0x00 with a := 0x1234 } []) = .next t ∧ t.cpu.m8 = true ∧
      mnem (.sep 0x20) ∈ [.rep, .sep, .plp, .rti, .xce]) ∧
    ∃ t, exec .xce (st { nat 0x01 with a := 0x0034 } []) = .next t ∧ t.cpu.e = true ∧
      (st { nat 0x01 with a := 0x0034 } []).cpu.a.toNat / 256 = 0 ∧ mnem .xce ∉ [.xba, .tdc, .tsc, .mvn, .mvp] := ⟨⟨_, rfl, by decide, by decide⟩, ⟨_, rfl, by decide, by decide⟩, _, rfl, by decide, by decide, by decide⟩

/-- The last byte of a bank and the first: the second address wraps. -/
theorem witness_StoreThenLoadBytes :
    PlainCells (accessed 2 0x7EFFFF) Bus.reset ∧ cellOf Bus.reset.params 0x7E0010 = some 0x7E0010 ∧
      ∀ a ∈ accessed 2 0x7EFFFF, ramCellOf Bus.reset.params a ≠ some 0x7E0010 := ⟨⟨rfl, by decide, [0x7EFFFF, 0x7E0000], by decide +kernel, by decide⟩, by decide +kernel,
      (cells_apart (ks := [0x7EFFFF, 0x7E0000]) (by decide +kernel) (by decide)).2⟩

/-- Every clause at the ends of its ranges. -/
theorem witness_BusDecode :
    let c : BusParams := Bus.reset.params
    let c' := { c with coprocessor := true }
    decodeAddr c 0x7E0000 = .wram 0x7E0000 ∧ decodeAddr c 0x7FFFFF = .wram 0x7FFFFF ∧ decodeAddr c 0x3F1FFF = .wram 0x7E1FFF ∧
    decodeAddr c 0x800000 = .wram 0x7E0000 ∧ decodeAddr c 0x002140 = .mailbox 0 ∧ decodeAddr c 0xBF2143 = .mailbox 3 ∧
    decodeAddr c 0x002100 = .ppu ∧ decodeAddr c 0x00213F = .ppu ∧ decodeAddr c 0x002144 = .ppu ∧ decodeAddr c 0x0021FF = .ppu ∧
    decodeAddr c 0x004016 = .controller1 ∧ decodeAddr c 0x004017 = .controller2 ∧ decodeAddr c 0x004200 = .cpuReg 0x4200 ∧
    decodeAddr c 0x00421F = .cpuReg 0x421F ∧ decodeAddr c 0x004300 = .dmaReg ∧ decodeAddr c 0x00437F = .dmaReg ∧
    decodeAddr c' 0x003000 = .coprocessor ∧ decodeAddr c' 0x0032FF = .coprocessor ∧ decodeAddr c' 0x006000 = .coprocessor ∧
    decodeAddr c' 0x3F7FFF = .coprocessor ∧ decodeAddr c 0x003000 = .openBus ∧ decodeAddr c 0x002000 = .openBus ∧
    decodeAddr c 0x0020FF = .openBus ∧ decodeAddr c 0x002200 = .openBus ∧ decodeAddr c 0x004015 = .openBus ∧ decodeAddr c 0x004018 = .openBus ∧
    decodeAddr c 0x0041FF = .openBus ∧ decodeAddr c 0x004220 = .openBus ∧ decodeAddr c 0x0042FF = .openBus ∧ decodeAddr c 0x004380 = .openBus ∧
    decodeAddr c 0x007FFF = .openBus ∧ decodeAddr c 0x008000 = .rom 0x008000 ∧ decodeAddr c' 0x002FFF = .openBus ∧
    decodeAddr c' 0x003300 = .openBus ∧ decodeAddr c' 0x005FFF = .openBus ∧ decodeAddr c' 0x008000 = .rom 0x008000 ∧ decodeAddr c 0x400000 = .openBus ∧
    decodeAddr c 0x7DFFFF = .rom 0x7DFFFF ∧ decodeAddr c 0xC08000 = .rom 0x408000 ∧ decodeAddr c 0xFF7FFF = .sram 0xFF7FFF := by decide +kernel

/-- Every clause at the ends of its ranges. -/
theorem witness_CartridgeWindows :
    let lo : BusParams := { map := [], mapping := .loRom, romLen := 0x10000, sramLen := 0x800, coprocessor := false }
    let hi : BusParams := { map := [], mapping := .hiRom, romLen := 0x20000, sramLen := 0x2000, coprocessor := false }
    let ex : BusParams := { map := [], mapping := .exHiRom, romLen := 0x800000, sramLen := 0x2000, coprocessor := false }
    decodeAddr lo 0x008000 = .rom 0x008000 ∧ decodeAddr lo 0xFFFFFF = .rom 0x01FFFF ∧ decodeAddr lo 0x7DFFFF = .rom 0x01FFFF ∧
    decodeAddr lo 0x808000 = .rom 0x008000 ∧ decodeAddr hi 0x400000 = .rom 0xC00000 ∧ decodeAddr hi 0x7DFFFF = .rom 0xC1FFFF ∧
    decodeAddr hi 0xC00000 = .rom 0xC00000 ∧ decodeAddr hi 0x00FFFC = .rom 0xC0FFFC ∧ decodeAddr ex 0x7DFFFF = .rom 0x7DFFFF ∧
    decodeAddr ex 0x3FFFFF = .rom 0x3FFFFF ∧ decodeAddr ex 0xBF8000 = .rom 0xFF8000 ∧
    decodeAddr lo 0x700000 = decodeAddr lo 0x700800 ∧ decodeAddr lo 0x7D7FFF = .sram 0x7007FF ∧ decodeAddr lo 0xFF7FFF = .sram 0x7007FF ∧
    decodeAddr hi 0x206000 = decodeAddr hi 0x3F6000 ∧ decodeAddr hi 0x3F7FFF = .sram 0x207FFF ∧ decodeAddr ex 0x3F7FFF = .sram 0x207FFF := by decide +kernel

theorem witness_RomAndOpenBusAccess :
    (∃ k, decodeAddr Bus.reset.params 0x00FFFC = .rom k) ∧ decodeAddr Bus.reset.params 0x003000 = .openBus ∧ Bus.reset.patches = [] := ⟨⟨_, rfl⟩, by decide, rfl⟩

/-- The hypotheses of MultiplyDivideUnits (under the map of R70) and ControllerShiftsOut. -/
theorem witness_DeviceStatements :
    Bus.reset.patches = [] ∧ (decodeAddr Bus.reset.params 0x004202 = .cpuReg 0x4202 ∧ decodeAddr Bus.reset.params 0x004203 = .cpuReg 0x4203) ∧
    (decodeAddr Bus.reset.params 0xBF4204 = .cpuReg 0x4204 ∧ decodeAddr Bus.reset.params 0xBF4205 = .cpuReg 0x4205 ∧ decodeAddr Bus.reset.params 0xBF4206 = .cpuReg 0x4206) ∧
    (decodeAddr Bus.reset.params 0x804214 = .cpuReg 0x4214 ∧ decodeAddr Bus.reset.params 0x804215 = .cpuReg 0x4215) ∧
    (decodeAddr Bus.reset.params 0x3F4216 = .cpuReg 0x4216 ∧ decodeAddr Bus.reset.params 0x3F4217 = .cpuReg 0x4217) ∧ decodeAddr Bus.reset.params 0x004016 = .controller1 := by decide +kernel

/-- A memory system with the units at other addresses, product and remainder apart. -/
theorem witness_MultiplyDivideUnits_own_registers :
    let region := fun (bank off : Nat) (t : Target) => ({ bankLo := bank, bankHi := bank, offLo := off, offHi := off, target := t, stride := 0 } : Region)
    let p := { Bus.reset.params with map := [region 0x00 0x5000 (.cpuReg 0x4202), region 0x00 0x5001 (.cpuReg 0x4203), region 0x00 0x5002 (.productReg false),
      region 0x00 0x5003 (.productReg true), region 0x00 0x5004 (.remainderReg false), region 0x00 0x5005 (.remainderReg true)] }
    decodeAddr p 0x005000 = .cpuReg 0x4202 ∧ decodeAddr p 0x005001 = .cpuReg 0x4203 ∧ decodeAddr p 0x005002 = .productReg false ∧
    decodeAddr p 0x005003 = .productReg true ∧ decodeAddr p 0x005004 = .remainderReg false ∧ decodeAddr p 0x005005 = .remainderReg true ∧
    decodeAddr p 0x004204 = .cpuReg 0x4204 := by decide +kernel

/-- An address for every clause, under the map of R70. -/
theorem witness_FlagRegisterAndMailboxReads :
    decodeAddr Bus.reset.params 0x00420B = .cpuReg 0x420B ∧ decodeAddr Bus.reset.params 0xBF420B = .cpuReg 0x420B ∧
    decodeAddr Bus.reset.params 0x004200 = .cpuReg 0x4200 ∧ decodeAddr Bus.reset.params 0x804212 = .cpuReg 0x4212 ∧
    decodeAddr Bus.reset.params 0x002143 = .mailbox 3 ∧ decodeAddr Bus.reset.params 0x002100 = .ppu ∧ decodeAddr Bus.reset.params 0x004017 = .controller2 ∧
    decodeAddr Bus.reset.params 0x004300 = .dmaReg ∧ decodeAddr { Bus.reset.params with coprocessor := true } 0x003000 = .coprocessor ∧
    decodeAddr Bus.reset.params 0x00420C = .cpuReg 0x420C ∧ decodeAddr Bus.reset.params 0x004210 = .cpuReg 0x4210 ∧ Bus.reset.patches = [] := by decide +kernel

/-- Regions before the map of R70: the first that holds the address, at the ends of its ranges. -/
theorem witness_BusDecode_regions :
    let r : Region := { bankLo := 0x10, bankHi := 0x11, offLo := 0x2000, offHi := 0x3FFF, target := .rom 0x200000, stride := 0x2000 }
    let q : Region := { bankLo := 0x10, bankHi := 0x10, offLo := 0x2000, offHi := 0x2000, target := .external, stride := 0 }
    let p := { Bus.reset.params with map := [q, r] }
    decodeAddr p 0x102000 = .external ∧ decodeAddr p 0x102001 = .rom 0x200001 ∧ decodeAddr p 0x113FFF = .rom 0x203FFF ∧
    decodeAddr p 0x101FFF = .wram 0x7E1FFF ∧ decodeAddr p 0x122000 = .openBus ∧ decodeAddr p 0x104000 = .openBus := by decide +kernel

theorem witness_CheatHookSubstitutes :
    let p : Patch := { addr := 0x7E0010, value := 0x55, compare := some 0x00 }
    let b := { Bus.reset with patches := [p] }
    (b.patches = p :: [] ∧ p.addr = 0x7E0010 ∧ p.compare = some (({ b with patches := [] }).read 0x7E0010).1) ∧
    (p.addr ≠ 0x7E0011) ∧ ({ p with compare := none }).compare = none ∧
    ({ p with compare := some 0x01 }).compare ≠ some (({ b with patches := [] }).read 0x7E0010).1 := by decide

theorem witness_LdaResult :
    ldaForms (.mem (.dpIndLongY 0x10)) = some (0xB7, .ldaDpIndLongY 0x10) := rfl

theorem witness_IndexLoadResult :
    ldxForms (.mem (.dpY 0x10)) = some (0xB6, .ldxDpY 0x10) := rfl

theorem witness_IndexLoadResult_ldy :
    ldyForms (.imm (.b8 0x10)) = some (0xA0, .ldyImm (.b8 0x10)) := rfl

theorem witness_StoreResult :
    staForms (.srIndY 0x10) = some (0x93, .staSrIndY 0x10) := rfl

theorem witness_StoreResult_stx :
    stxForms (.dpY 0x10) = some (0x96, .stxDpY 0x10) := rfl

theorem witness_StoreResult_sty :
    styForms (.abs 0x1234) = some (0x8C, .styAbs 0x1234) := rfl

theorem witness_StoreResult_stz :
    stzForms (.absX 0x1234) = some (0x9E, .stzAbsX 0x1234) := rfl

theorem witness_AdcSbcResult :
    adcForms (.mem (.long 0x123456)) = some (0x6F, .adcLong 0x123456) := rfl

theorem witness_AdcSbcResult_sbc :
    sbcForms (.mem (.longX 0x123456)) = some (0xFF, .sbcLongX 0x123456) := rfl

theorem witness_CompareResult :
    cmpForms (.mem (.sr 0x10)) = some (0xC3, .cmpSr 0x10) := rfl

theorem witness_CompareResult_cpx :
    cpxForms (.imm (.b16 0x10)) = some (0xE0, .cpxImm (.b16 0x10)) := rfl

theorem witness_CompareResult_cpy :
    cpyForms (.mem (.dp 0x10)) = some (0xC4, .cpyDp 0x10) := rfl

theorem witness_IncDecResult :
    incForms (.acc) = some (0x1A, .incA) := rfl

theorem witness_IncDecResult_dec :
    decForms (.mem (.absX 0x10)) = some (0xDE, .decAbsX 0x10) := rfl

theorem witness_LogicResult :
    andForms (.mem (.dpInd 0x10)) = some (0x32, .andDpInd 0x10) := rfl

theorem witness_LogicResult_ora :
    oraForms (.mem (.dpXInd 0x10)) = some (0x01, .oraDpXInd 0x10) := rfl

theorem witness_LogicResult_eor :
    eorForms (.mem (.absY 0x10)) = some (0x59, .eorAbsY 0x10) := rfl

theorem witness_BitResult :
    bitForms (.imm (.b8 0x10)) = some (0x89, .bitImm (.b8 0x10)) := rfl

theorem witness_BitResult_memory :
    bitForms (.mem (.dpX 0x10)) = some (0x34, .bitDpX 0x10) := rfl

theorem witness_TsbTrbResult :
    tsbForms (.mem (.abs 0x10)) = some (0x0C, .tsbAbs 0x10) := rfl

theorem witness_TsbTrbResult_trb :
    trbForms (.mem (.dp 0x10)) = some (0x14, .trbDp 0x10) := rfl

theorem witness_ShiftResult :
    aslForms (.acc) = some (0x0A, .aslA) := rfl

theorem witness_ShiftResult_lsr :
    lsrForms (.mem (.dp 0x10)) = some (0x46, .lsrDp 0x10) := rfl

theorem witness_ShiftResult_rol :
    rolForms (.mem (.abs 0x10)) = some (0x2E, .rolAbs 0x10) := rfl

theorem witness_ShiftResult_ror :
    rorForms (.mem (.dpX 0x10)) = some (0x76, .rorDpX 0x10) := rfl

/-- The hypotheses of OnlyCells: no stored byte starts GDMA, and a cell that none of them is. -/
theorem witness_StoreResult_OnlyCells :
    (∀ a ∈ accessed 2 0x7EFFFF, isGdmaTrigger Bus.reset.params a = false) ∧ ∀ a ∈ accessed 2 0x7EFFFF, ramCellOf Bus.reset.params a ≠ some 0x7E0001 := cells_apart (ks := [0x7EFFFF, 0x7E0000]) (by decide +kernel) (by decide)

theorem witness_DecimalCorrectionPerNibble :
    (0x00FF : Word).toNat < 2 ^ Width.w8.bits ∧ (0xABCD : Word).toNat < 2 ^ Width.w16.bits := by decide

theorem witness_BinaryAdditionLaw :
    (0x00FF : Word).toNat < 2 ^ Width.w8.bits ∧ (0xFFFF : Word).toNat < 2 ^ Width.w16.bits := by decide

/-- The hypotheses of DecimalAdditionAddsDecimals and DecimalSubtractionSubtractsDecimals, at both ends. -/
theorem witness_DecimalStatements :
    ((0x0099 : Word).toNat < 2 ^ Width.w8.bits ∧ isBcd (digitsOf .w8) (0x0099 : Word).toNat = true) ∧
    ((0x9999 : Word).toNat < 2 ^ Width.w16.bits ∧ isBcd (digitsOf .w16) (0x9999 : Word).toNat = true) ∧
    isBcd (digitsOf .w16) (0x0000 : Word).toNat = true := by decide

/-- The stack wraps in page $01. -/
theorem witness_CallThenReturn :
    let s := st { emu with s := 0x0100 } []
    s.Inv ∧ PlainCells (pushAddrs s.cpu.e 2 s.cpu.s) s.bus ∧ PlainCells (pushAddrs s.cpu.e 3 s.cpu.s) s.bus := ⟨⟨⟨by decide, by decide⟩, by decide, by intro _ h; cases h⟩, ⟨rfl, by decide, [0x7E0100, 0x7E01FF], by decide, by decide⟩, rfl, by decide, [0x7E0100, 0x7E01FF, 0x7E01FE], by decide, by decide⟩

theorem witness_CallThenReturn_native :
    let s := st { nat 0x00 with s := 0x1FFF } []
    s.Inv ∧ PlainCells (pushAddrs s.cpu.e 3 s.cpu.s) s.bus := ⟨⟨⟨by decide, by decide⟩, by decide, by intro _ h; cases h⟩, rfl, by decide, [0x7E1FFF, 0x7E1FFE, 0x7E1FFD], by decide, by decide⟩

theorem witness_InterruptThenRtiResumes :
    let s := st { emu with nmiReq := true } []
    let s' := st { nat 0x00 with s := 0x1FFF, nmiReq := true, run := .waiting } []
    (s.Inv ∧ PlainCells (entryAddrs s.cpu) s.bus ∧ Quiet s ∧ s.resetReq = none ∧ s.cpu.run ≠ .stopped ∧ s.cpu.nmiReq = true) ∧
    (s'.Inv ∧ PlainCells (entryAddrs s'.cpu) s'.bus ∧ Quiet s' ∧ s'.resetReq = none ∧ s'.cpu.run ≠ .stopped ∧ s'.cpu.nmiReq = true) := ⟨⟨⟨⟨by decide, by decide⟩, by decide, by intro _ h; cases h⟩, ⟨rfl, by decide, [0x7E01FF, 0x7E01FE, 0x7E01FD], by decide, by decide⟩, rfl, rfl, by decide, rfl⟩,
      ⟨⟨by decide, by decide⟩, by decide, by intro _ h; cases h⟩, ⟨rfl, by decide, [0x7E1FFF, 0x7E1FFE, 0x7E1FFD, 0x7E1FFC], by decide, by decide⟩, rfl, rfl, by decide, rfl⟩

theorem witness_InterruptThenRtiResumes_irq :
    let s := { st { nat 0x00 with s := 0x1FFF, run := .waiting } [] with irqLine := true }
    s.Inv ∧ PlainCells (entryAddrs s.cpu) s.bus ∧ Quiet s ∧ s.resetReq = none ∧ s.cpu.run ≠ .stopped ∧ s.cpu.nmiReq = false ∧ s.irqLine = true ∧
      bitOf s.cpu.p 2 = false := ⟨⟨⟨by decide, by decide⟩, by decide, by intro _ h; cases h⟩, ⟨rfl, by decide, [0x7E1FFF, 0x7E1FFE, 0x7E1FFD, 0x7E1FFC], by decide, by decide⟩, rfl, rfl, by decide, rfl, rfl, by decide⟩

/-- An immediate of the width: the clause of IsLoad that gives its value. -/
theorem witness_LoadsOperand_imm16 :
    cpxForms (.imm (.b16 0x1000)) = some (0xE0, .cpxImm (.b16 0x1000)) ∧ (nat 0x00).xw = .w16 ∧ emu.mw = .w8 := ⟨rfl, by decide, by decide⟩

theorem witness_PushEffectiveAddressResult :
    (pushWord 0x1234).length = 2 := by decide

theorem witness_BlockMoveResult :
    emu.Inv ∧ ({ nat 0x00 with x := 0xFFFF, y := 0x8000 } : Cpu).Inv := ⟨⟨by decide, by decide⟩, by decide, by decide⟩

end Sys2Proof.Tests
end

section
/-! PROOFS. The bits of the status byte, what answers each address, and the device registers: settles O13, O20 and O24. -/

namespace Sys2Proof.Machine

open Sys2Proof.Claims

/-! Bits and operand widths. -/

/-- Bit `k` of a byte by division is its bit `k`. -/
theorem bitOf_eq_getLsbD (p : Byte) (k : Nat) : bitOf p k = p.getLsbD k := by
  rw [bitOf, BitVec.getLsbD, Nat.testBit_eq_decide_div_mod_eq]
  rfl

theorem flagGet_eq_bitOf (p : Byte) (f : Flag) : flagGet p f = bitOf p f.bit := (bitOf_eq_getLsbD p f.bit).symm

theorem Cpu.m8_eq (c : Cpu) : c.m8 = (c.e || bitOf c.p 5) := by rw [Cpu.m8, flagGet_eq_bitOf, Flag.bit]

theorem Cpu.x8_eq (c : Cpu) : c.x8 = (c.e || bitOf c.p 4) := by rw [Cpu.x8, flagGet_eq_bitOf, Flag.bit]

/-- Settles O13: the flags M and X are bits 5 and 4 of `P`. -/
theorem operandWidths : Obligations.OperandWidths := fun c =>
  ⟨c.m8_eq, c.x8_eq, by rw [Cpu.mw, Cpu.m8_eq], by rw [Cpu.xw, Cpu.x8_eq]⟩

/-! The regions of the parameter. -/

theorem Region.holds_iff_covers (r : Region) (a : Addr) : r.holds a = true ↔ Covers r a := by
  simp [Region.holds, Covers, and_assoc]

theorem Region.holds_eq_false_of_not_covers {r : Region} {a : Addr} (h : ¬Covers r a) : r.holds a = false :=
  Bool.eq_false_iff.mpr (mt (r.holds_iff_covers a).mp h)

theorem Region.answers_eq_regionAnswer (r : Region) (a : Addr) : r.answers a = regionAnswer r a := by
  unfold Region.answers regionAnswer
  cases r.target <;> rfl

/-! What the cartridge can answer. -/

/-- A cartridge cell or open bus. -/
def Target.cartridgeOrOpen (t : Target) : Prop := t = .openBus ∨ (∃ k, t = .rom k) ∨ ∃ k, t = .sram k

theorem romTarget_cartridgeOrOpen (home : Nat → Nat) (len i : Nat) : (romTarget home len i).cartridgeOrOpen := by
  unfold romTarget
  split
  · exact .inl rfl
  · exact .inr (.inl ⟨_, rfl⟩)

theorem sramTarget_cartridgeOrOpen (home : Nat → Nat) (len i : Nat) : (sramTarget home len i).cartridgeOrOpen := by
  unfold sramTarget
  split
  · exact .inl rfl
  · exact .inr (.inr ⟨_, rfl⟩)

theorem loRomTarget_cartridgeOrOpen (c : BusParams) (bank off : Nat) : (loRomTarget c bank off).cartridgeOrOpen := by
  unfold loRomTarget
  split
  · exact romTarget_cartridgeOrOpen _ _ _
  · split
    · exact sramTarget_cartridgeOrOpen _ _ _
    · exact .inl rfl

theorem hiRomTarget_cartridgeOrOpen (index : Nat → Nat → Nat) (c : BusParams) (bank off : Nat) :
    (hiRomTarget index c bank off).cartridgeOrOpen := by
  unfold hiRomTarget
  split
  · exact romTarget_cartridgeOrOpen _ _ _
  · split
    · exact romTarget_cartridgeOrOpen _ _ _
    · split
      · exact sramTarget_cartridgeOrOpen _ _ _
      · exact .inl rfl

theorem cartTarget_cartridgeOrOpen (c : BusParams) (bank off : Nat) : (cartTarget c bank off).cartridgeOrOpen := by
  unfold cartTarget
  split
  · exact loRomTarget_cartridgeOrOpen c bank off
  · exact hiRomTarget_cartridgeOrOpen _ c bank off
  · exact hiRomTarget_cartridgeOrOpen _ c bank off

/-! The offsets of a system bank (R70, R71). -/

section SystemBank

variable (c : BusParams) (bank : Nat) {off : Nat}

/-- An offset of the vector coprocessor. -/
def coprocessorOffset (off : Nat) : Prop := 0x3000 ≤ off ∧ off ≤ 0x32FF ∨ 0x6000 ≤ off ∧ off ≤ 0x7FFF

theorem systemTarget_wram (h : off ≤ 0x1FFF) : systemTarget c bank off = .wram (0x7E0000 + off) := by
  simp (disch := omega) only [systemTarget, if_pos]

theorem systemTarget_mailbox (port : Fin 4) : systemTarget c bank (0x2140 + port) = .mailbox port := by
  match port with
  | 0 | 1 | 2 | 3 => rfl

theorem systemTarget_ppu (h : 0x2100 ≤ off ∧ off ≤ 0x213F ∨ 0x2144 ≤ off ∧ off ≤ 0x21FF) :
    systemTarget c bank off = .ppu := by
  simp (disch := omega) only [systemTarget, if_pos, if_neg]

theorem systemTarget_cpuReg (h : 0x4200 ≤ off ∧ off ≤ 0x421F) : systemTarget c bank off = .cpuReg off := by
  simp (disch := omega) only [systemTarget, if_pos, if_neg]

theorem systemTarget_dmaReg (h : 0x4300 ≤ off ∧ off ≤ 0x437F) : systemTarget c bank off = .dmaReg := by
  simp (disch := omega) only [systemTarget, if_pos, if_neg]

theorem systemTarget_coprocessor (hc : c.coprocessor = true) (h : coprocessorOffset off) :
    systemTarget c bank off = .coprocessor := by
  unfold coprocessorOffset at h
  simp (disch := omega) only [systemTarget, hc, true_and, if_pos, if_neg]

theorem systemTarget_cart
    (h : 0x2000 ≤ off ∧ off ≤ 0x20FF ∨ 0x2200 ≤ off ∧ off ≤ 0x4015 ∨ 0x4018 ≤ off ∧ off ≤ 0x41FF ∨
      0x4220 ≤ off ∧ off ≤ 0x42FF ∨ 0x4380 ≤ off)
    (hc : c.coprocessor = true → ¬coprocessorOffset off) : systemTarget c bank off = cartTarget c bank off := by
  have hc' : ¬(c.coprocessor = true ∧ (0x3000 ≤ off ∧ off ≤ 0x32FF ∨ 0x6000 ≤ off ∧ off ≤ 0x7FFF)) :=
    fun ⟨present, inside⟩ => hc present inside
  simp (disch := omega) only [systemTarget, if_neg hc', if_neg]

end SystemBank

/-! The banks of the map of R70. -/

theorem consoleTarget_wram (c : BusParams) {a : Addr} (h : a.toNat / 65536 = 0x7E ∨ a.toNat / 65536 = 0x7F) :
    consoleTarget c a = .wram (0x7E0000 + a.toNat % 0x20000) := by
  have home : a.toNat = 0x7E0000 + a.toNat % 0x20000 := by omega
  simp only [consoleTarget, if_pos h, ← home]

theorem consoleTarget_system (c : BusParams) {a : Addr}
    (h : a.toNat / 65536 ≤ 0x3F ∨ 0x80 ≤ a.toNat / 65536 ∧ a.toNat / 65536 ≤ 0xBF) :
    consoleTarget c a = systemTarget c (a.toNat / 65536) (a.toNat % 65536) := by
  simp (disch := omega) only [consoleTarget, if_pos, if_neg]

theorem consoleTarget_cart (c : BusParams) {a : Addr}
    (h : 0x40 ≤ a.toNat / 65536 ∧ a.toNat / 65536 ≤ 0x7D ∨ 0xC0 ≤ a.toNat / 65536) :
    consoleTarget c a = cartTarget c (a.toNat / 65536) (a.toNat % 65536) := by
  have inSpace := a.isLt
  simp (disch := omega) only [consoleTarget, if_neg]

/-- Settles O20: the first region that covers the address, else the bank's part of the map of R70. -/
theorem busDecode : Obligations.BusDecode := by
  intro c a bank off cartridgeOrOpen
  refine ⟨fun before r after hmap hbefore hr => ?_, fun hnone => ?_⟩
  · rw [← Region.answers_eq_regionAnswer]
    exact decodeAddr_eq_answers hmap (fun q hq => Region.holds_eq_false_of_not_covers (hbefore q hq))
      ((r.holds_iff_covers a).mpr hr)
  · rw [decodeAddr_eq_consoleTarget fun r hr => Region.holds_eq_false_of_not_covers (hnone r hr)]
    refine ⟨consoleTarget_wram c, fun hbank => ?_, fun hbank => ?_⟩
    · rw [consoleTarget_system c hbank]
      refine ⟨systemTarget_wram c bank, fun port hoff => ?_, systemTarget_ppu c bank, fun hoff => ?_, fun hoff => ?_,
        systemTarget_cpuReg c bank, systemTarget_dmaReg c bank, systemTarget_coprocessor c bank, fun hoff hc => ?_⟩
      · exact (congrArg (systemTarget c bank) hoff).trans (systemTarget_mailbox c bank port)
      · exact congrArg (systemTarget c bank) hoff
      · exact congrArg (systemTarget c bank) hoff
      · rw [systemTarget_cart c bank hoff hc]
        exact cartTarget_cartridgeOrOpen c bank off
    · rw [consoleTarget_cart c hbank]
      exact cartTarget_cartridgeOrOpen c bank off

/-! Writes to the device registers. -/

/-- A unit outside this block other than a register of `$4200-$421F`. -/
def Target.outside (t : Target) : Prop :=
  t = .ppu ∨ t = .controller2 ∨ t = .dmaReg ∨ t = .coprocessor ∨ t = .external

section Writes

variable {b : Bus} {a : Addr} (v : Byte)

theorem Bus.write_of_gdmaTrigger (h : decodeAddr b.params a = .cpuReg 0x420B) : b.write a v = b.gdma a v := by
  simp [Bus.write, isGdmaTrigger, h]

/-- A write that starts no transfer is what the target takes. -/
theorem Bus.write_eq_writeTarget {t : Target} (h : decodeAddr b.params a = t) (ht : t ≠ .cpuReg 0x420B) :
    b.write a v = b.writeTarget a v t := by
  simp [Bus.write, isGdmaTrigger, h, ht]

theorem Bus.writeReg_of_no_effect {off : Nat} (h : off ∉ [0x4200, 0x4202, 0x4203, 0x4204, 0x4205, 0x4206]) :
    b.writeReg off v = b := by
  simp only [List.mem_cons, List.not_mem_nil, or_false, not_or] at h
  simp [Bus.writeReg, h]

theorem Bus.write_outside (h : (decodeAddr b.params a).outside) : b.write a v = b.tell (.write a v) := by
  obtain ht | ht | ht | ht | ht := h <;> rw [Bus.write_eq_writeTarget v ht nofun] <;> rfl

theorem Bus.write_cpuReg_of_no_effect {off : Nat} (ht : decodeAddr b.params a = .cpuReg off)
    (h : off ∉ [0x4200, 0x4202, 0x4203, 0x4204, 0x4205, 0x4206, 0x420B]) : b.write a v = b.tell (.write a v) := by
  rw [Bus.write_eq_writeTarget v ht (by rintro ⟨⟩; simp at h), Bus.writeTarget, Bus.writeReg_of_no_effect]
  exact fun hmem => h (List.mem_append_left [0x420B] hmem)

theorem Bus.write_mailbox {port : Fin 4} (ht : decodeAddr b.params a = .mailbox port) :
    b.write a v = { b.tell (.write a v) with toApu := b.toApu.set port v } :=
  Bus.write_eq_writeTarget v ht nofun

end Writes

/-! The GDMA transfer (log 9). -/

/-- A write of a transfer to `$420B` is only told. -/
theorem Bus.gdmaWrite_eq_transferWrite (b : Bus) (a : Addr) (v : Byte) : b.gdmaWrite a v = transferWrite b a v := by
  unfold transferWrite Bus.gdmaWrite
  split
  case isTrue h => rw [eq_of_beq h]; rfl
  case isFalse h => rw [Bus.write, if_neg h]

theorem carriedOut_eq_foldl (accesses : List BusAccess) (b : Bus) :
    carriedOut accesses b = accesses.foldl Bus.gdmaAccess b := by
  induction accesses generalizing b with
  | nil => rfl
  | cons access rest ih =>
    cases access <;> simp [carriedOut, ih, Bus.gdmaAccess, Bus.gdmaWrite_eq_transferWrite]

theorem Bus.gdma_eq_carriedOut (b : Bus) (a : Addr) (v : Byte) :
    b.gdma a v =
      if v = 0 then b.tell (.write a v)
      else carriedOut (Config.gdmaAccesses (b.tell (.write a v)).unitLog) (b.tell (.write a v)) := by
  rw [carriedOut_eq_foldl]
  rfl

/-! Reads of the device registers, with no cheat patch. -/

/-- The bits of `keep` are those of the value, whatever is drawn for the others. -/
theorem Bus.drawAround_getLsbD (b : Bus) (a : Addr) {keep : Byte} (v : Byte) {k : Nat} (hk : keep.getLsbD k = true) :
    (b.drawAround a keep v).1.getLsbD k = v.getLsbD k := by
  simp [Bus.drawAround, hk]

section Reads

variable {b : Bus} {a : Addr} (hp : b.patches = [])

include hp

/-- With no cheat patch a read is what the target answers. -/
theorem Bus.read_of_no_patches {t : Target} (ht : decodeAddr b.params a = t) : b.read a = b.readTarget a t := by
  simp [Bus.read, patched, hp, ht]

theorem Bus.read_outside (h : (decodeAddr b.params a).outside) : b.read a = b.draw a := by
  obtain ht | ht | ht | ht | ht := h <;> rw [Bus.read_of_no_patches hp ht] <;> rfl

theorem Bus.read_cpuReg_of_no_answer {off : Nat} (ht : decodeAddr b.params a = .cpuReg off)
    (h : off ∉ [0x4212, 0x4214, 0x4215, 0x4216, 0x4217]) : b.read a = b.draw a := by
  simp only [List.mem_cons, List.not_mem_nil, or_false, not_or] at h
  simp [Bus.read_of_no_patches hp ht, Bus.readTarget, Bus.readReg, h]

theorem Bus.read_mailbox {port : Fin 4} (ht : decodeAddr b.params a = .mailbox port) :
    b.read a = b.answer a b.fromApu[port] :=
  Bus.read_of_no_patches hp ht

/-- A read of `$4212` answers the NMI flag in bit 7 (R372). -/
theorem Bus.read_flagRegister_bit (ht : decodeAddr b.params a = .cpuReg 0x4212) :
    bitOf (b.read a).1 7 = b.nmiFlag := by
  rw [bitOf_eq_getLsbD, Bus.read_of_no_patches hp ht]
  refine (b.drawAround_getLsbD a (keep := 0x80) _ rfl).trans ?_
  cases b.nmiFlag <;> rfl

/-- A read of `$4212` clears the NMI flag (R372). -/
theorem Bus.read_flagRegister_clears (ht : decodeAddr b.params a = .cpuReg 0x4212) : (b.read a).2.nmiFlag = false := by
  rw [Bus.read_of_no_patches hp ht]
  rfl

end Reads

/-- Settles O24: each register's clause from what its target takes or answers; the second read of `$4212` finds the flag
that the first one cleared. -/
theorem flagRegisterAndMailboxReads : Obligations.FlagRegisterAndMailboxReads := by
  intro b a v target told outside
  refine ⟨fun ht => ?_, fun ht => Bus.write_eq_writeTarget v ht (by decide), ?_, fun hp => ⟨fun ht => ?_, fun port ht => ?_, ?_⟩⟩
  · exact (Bus.write_of_gdmaTrigger v ht).trans (Bus.gdma_eq_carriedOut b a v)
  · rintro (h | ⟨off, ht, hoff⟩)
    · exact Bus.write_outside v h
    · exact Bus.write_cpuReg_of_no_effect v ht hoff
  · refine ⟨Bus.read_flagRegister_bit hp ht, ?_⟩
    rw [Bus.read_flagRegister_bit (by simp [hp]) (by simpa using ht), Bus.read_flagRegister_clears hp ht]
  · have hw := Bus.write_mailbox v ht
    refine ⟨hw, ?_, by simp [hw], by rw [Bus.read_mailbox hp ht]; rfl⟩
    rw [Bus.read_mailbox (by simp [hp]) (by simpa using ht), hw]
    rfl
  · rintro (h | ⟨off, ht, hoff⟩)
    · exact Bus.read_outside hp h
    · exact Bus.read_cpuReg_of_no_answer hp ht hoff

end Sys2Proof.Machine
end

section
/-! PROOFS. What an instruction leaves alone: a relation between the state before and the state after that every register
operation meets and that composes, shown once for each meaning and then for all 256 instructions. -/

namespace Sys2Proof.Machine

open Sys2Proof.Claims

/-! The relation. -/

/-- The mnemonics that may write `E`, M or X: those that end in the width discipline (R31). -/
def widthWriters : List Mnem := [.rep, .sep, .plp, .rti, .xce]

/-- The mnemonics that may write the high byte of `A` under `m8` (R21, R31). -/
def accHighWriters : List Mnem := widthWriters ++ [.xba, .tdc, .tsc, .mvn, .mvp]

/-- The inputs and the hidden state that no instruction writes (R38, R39, R430). -/
def State.inputs (s : State) : Bool × Nat × Bool × Option ResetLows × List (List EnvEvent) × Nat :=
  (s.cpu.nmiReq, s.cpu.budget, s.irqLine, s.resetReq, s.env, s.costDraws)

/-- What an instruction of a mnemonic leaves alone on the way from `s` to `t` (R21 to R29, R32, R37 to R39). -/
structure Keeps (m : Mnem) (s t : State) : Prop where
  d : m ∉ [.tcd, .pld] → t.cpu.d = s.cpu.d
  db : m ∉ [.plb, .mvn, .mvp] → t.cpu.db = s.cpu.db
  pb : m ∉ [.jml, .jsl, .rtl, .rti, .brk, .cop] ∨ m = .rti ∧ s.cpu.e = true → t.cpu.pb = s.cpu.pb
  e : m ≠ .xce → t.cpu.e = s.cpu.e
  run : m ∉ [.wai, .stp] → t.cpu.run = s.cpu.run
  inputs : t.inputs = s.inputs
  flags : ∀ f, m ∉ writersOf f → flagGet t.cpu.p f = flagGet s.cpu.p f
  accHigh : s.cpu.m8 = true → m ∉ accHighWriters → hiByte t.cpu.a = hiByte s.cpu.a
  inv : m ∉ widthWriters → s.cpu.Inv → t.cpu.Inv
  wf : Memory.wf s.bus.mem → Memory.wf t.bus.mem

/-- An instruction keeps what its mnemonic leaves alone, and one that may write `E`, M or X ends in the width
discipline. -/
structure Effect (m : Mnem) (s t : State) : Prop where
  keeps : Keeps m s t
  disciplined : m ∈ widthWriters → ∃ u : State, t = u.widthDiscipline

theorem ne_xce_of_not_widthWriter {m : Mnem} (h : m ∉ widthWriters) : m ≠ .xce := by
  rintro rfl; exact h (by decide)

theorem not_widthWriter_of_not_accHighWriter {m : Mnem} (h : m ∉ accHighWriters) : m ∉ widthWriters :=
  fun h' => h (List.mem_append_left _ h')

/-- REP, SEP, PLP and RTI may write every flag. -/
theorem mem_writersOf {m : Mnem} (hm : m ∈ [.rep, .sep, .plp, .rti]) (f : Flag) : m ∈ writersOf f := by
  simp only [List.mem_cons, List.not_mem_nil, or_false] at hm
  obtain rfl | rfl | rfl | rfl := hm <;> cases f <;> decide

/-- An 8-bit result keeps the high byte of its register (R21). -/
theorem hiByte_merge_w8 (old v : Word) : hiByte (Width.w8.merge old v) = hiByte old := by
  apply BitVec.eq_of_getLsbD_eq
  intro i hi
  simp only [Width.merge, hiByte, BitVec.getLsbD_extractLsb', BitVec.getLsbD_or, BitVec.getLsbD_and]
  obtain rfl | rfl | rfl | rfl | rfl | rfl | rfl | rfl :
      i = 0 ∨ i = 1 ∨ i = 2 ∨ i = 3 ∨ i = 4 ∨ i = 5 ∨ i = 6 ∨ i = 7 := by
    omega
  all_goals simp

namespace Keeps

variable {m : Mnem} {s t u : State}

theorem m8 (h : Keeps m s t) (hm : m ∉ widthWriters) : t.cpu.m8 = s.cpu.m8 := by
  rw [Cpu.m8, Cpu.m8, h.e (ne_xce_of_not_widthWriter hm), h.flags .m hm]

theorem refl (s : State) : Keeps m s s where
  d _ := rfl
  db _ := rfl
  pb _ := rfl
  e _ := rfl
  run _ := rfl
  inputs := rfl
  flags _ _ := rfl
  accHigh _ _ := rfl
  inv _ h := h
  wf h := h

theorem trans (h : Keeps m s t) (h' : Keeps m t u) : Keeps m s u where
  d hm := (h'.d hm).trans (h.d hm)
  db hm := (h'.db hm).trans (h.db hm)
  pb hm := (h'.pb (hm.imp_right fun ⟨hr, he⟩ => ⟨hr, (h.e (by rw [hr]; decide)).trans he⟩)).trans (h.pb hm)
  e hm := (h'.e hm).trans (h.e hm)
  run hm := (h'.run hm).trans (h.run hm)
  inputs := h'.inputs.trans h.inputs
  flags f hm := (h'.flags f hm).trans (h.flags f hm)
  accHigh hs hm :=
    (h'.accHigh ((h.m8 (not_widthWriter_of_not_accHighWriter hm)).trans hs) hm).trans (h.accHigh hs hm)
  inv hm hs := h'.inv hm (h.inv hm hs)
  wf hs := h'.wf (h.wf hs)

/-! Each register operation, after whatever came before it. -/

variable (h : Keeps m s t)

include h

theorem setBus {b : Bus} (hb : Memory.wf t.bus.mem → Memory.wf b.mem) : Keeps m s (t.setBus b) :=
  h.trans { refl t with wf := hb }

theorem load (o : Operand) (w : Width) : Keeps m s (t.load o w).2 := h.setBus (by simp)

theorem setPC (v : Word) : Keeps m s (t.setPC v) := h.trans { refl t with }

theorem setRun (v : RunState) (hm : m ∈ [.wai, .stp]) : Keeps m s (t.setRun v) :=
  h.trans { refl t with run := fun hn => absurd hm hn }

theorem setD (v : Word) (hm : m ∈ [.tcd, .pld]) : Keeps m s (t.setD v) :=
  h.trans { refl t with d := fun hn => absurd hm hn }

theorem setDB (v : Byte) (hm : m ∈ [.plb, .mvn, .mvp]) : Keeps m s (t.setDB v) :=
  h.trans { refl t with db := fun hn => absurd hm hn }

/-- RTI writes PB in native mode only (R322). -/
theorem setPB (v : Byte) (hm : m ∈ [.jml, .jsl, .rtl, .rti, .brk, .cop]) (he : m ≠ .rti ∨ t.cpu.e = false) :
    Keeps m s (t.setPB v) := by
  refine h.trans { refl t with pb := ?_ }
  rintro (hn | ⟨hrti, ht⟩)
  · exact absurd hm hn
  · simp [hrti, ht] at he

/-- The accumulator at the width in force: under `m8` its high byte stays (R21). -/
theorem writeA (v : Word) {w : Width} (hw : t.cpu.mw = w) : Keeps m s (t.writeA w v) := by
  refine h.trans { refl t with accHigh := fun h8 _ => ?_ }
  rw [← hw, Cpu.mw, if_pos h8]
  exact hiByte_merge_w8 _ _

/-- All of the accumulator, for a mnemonic that may write its high byte. -/
theorem setA (v : Word) (hm : m ∈ accHighWriters) : Keeps m s (t.setA v) :=
  h.trans { refl t with accHigh := fun _ hn => absurd hm hn }

theorem setX {v : Word} (hv : t.cpu.Inv → t.cpu.x8 = true → hiByte v = 0x00) : Keeps m s (t.setX v) :=
  h.trans { refl t with inv := fun _ ⟨hxy, hs⟩ => ⟨fun h8 => ⟨hv ⟨hxy, hs⟩ h8, (hxy h8).2⟩, hs⟩ }

theorem setY {v : Word} (hv : t.cpu.Inv → t.cpu.x8 = true → hiByte v = 0x00) : Keeps m s (t.setY v) :=
  h.trans { refl t with inv := fun _ ⟨hxy, hs⟩ => ⟨fun h8 => ⟨(hxy h8).1, hv ⟨hxy, hs⟩ h8⟩, hs⟩ }

theorem setS {v : Word} (hv : t.cpu.e = true → hiByte v = 0x01) : Keeps m s (t.setS v) :=
  h.trans { refl t with inv := fun _ ⟨hxy, _⟩ => ⟨hxy, hv⟩ }

theorem setE (v : Bool) (hm : m = .xce) : Keeps m s (t.setE v) := by
  subst hm
  exact h.trans
    { refl t with
      e := fun hn => absurd rfl hn
      accHigh := fun _ hn => absurd (by decide) hn
      inv := fun hn => absurd (by decide) hn }

/-- A status byte that differs only in flags the mnemonic may write. M and X are such flags for the
width writers alone. -/
theorem setStatus {p : Byte} (hp : ∀ f, m ∉ writersOf f → flagGet p f = flagGet t.cpu.p f) :
    Keeps m s (t.setP p) := by
  refine h.trans { refl t with flags := hp, inv := fun hm ⟨hxy, hs⟩ => ⟨fun h8 => hxy ?_, hs⟩ }
  rwa [Cpu.x8, State.setP_cpu_p, hp .x hm] at h8

/-- A status byte that differs only in the flags `fs`. -/
theorem setP {p : Byte} {fs : List Flag} (hp : ∀ f ∉ fs, flagGet p f = flagGet t.cpu.p f)
    (hm : ∀ f ∈ fs, m ∈ writersOf f) : Keeps m s (t.setP p) :=
  h.setStatus fun f hf => hp f fun hmem => hf (hm f hmem)

theorem flagsNZ (w : Width) (v : Word) (hm : ∀ f ∈ [Flag.n, .z], m ∈ writersOf f) : Keeps m s (t.flagsNZ w v) := by
  refine h.setP (fun f hf => ?_) hm
  simp only [List.mem_cons, List.not_mem_nil, or_false, not_or] at hf
  exact setNZ_other w v _ hf.1 hf.2

/-- A status byte from the stack or from REP and SEP. -/
theorem setAllStatus (p : Byte) (hm : m ∈ [.rep, .sep, .plp, .rti]) : Keeps m s (t.setP p) :=
  h.setStatus fun f hf => absurd (mem_writersOf hm f) hf

/-- Pushes and pulls. -/
theorem stack (hs : StackOnly t u) : Keeps m s u :=
  h.trans
    { d := fun _ => by rw [hs.cpu]
      db := fun _ => by rw [hs.cpu]
      pb := fun _ => by rw [hs.cpu]
      e := fun _ => hs.e
      run := fun _ => by rw [hs.cpu]
      inputs := by unfold State.inputs; rw [hs.cpu, hs.irqLine, hs.resetReq, hs.env, hs.costDraws]
      flags := fun _ _ => by rw [hs.p]
      accHigh := fun _ _ => by rw [hs.cpu]
      inv := fun _ ⟨hxy, _⟩ =>
        ⟨fun h8 => by rw [hs.cpu]; exact hxy (hs.x8 ▸ h8), fun he => hs.page (hs.e ▸ he)⟩
      wf := hs.wf }

/-- The width discipline, for a mnemonic that may write what it cuts. -/
theorem widthDiscipline (hm : m ∈ widthWriters) : Keeps m s t.widthDiscipline := by
  rw [State.widthDiscipline_eq]
  exact h.trans
    { refl t with
      accHigh := fun _ hn => absurd hm (not_widthWriter_of_not_accHighWriter hn)
      inv := fun hn => absurd hm hn }

theorem ordinary (hm : m ∉ widthWriters) : Effect m s t := ⟨h, fun hn => absurd hn hm⟩

theorem disciplined (hm : m ∈ widthWriters) : Effect m s t.widthDiscipline :=
  ⟨h.widthDiscipline hm, fun _ => ⟨t, rfl⟩⟩

end Keeps

/-! What the flag computations leave alone. -/

section FlagComputations

variable (w : Width) (p : Byte) (f : Flag)

theorem flagGet_aluFlags_of_not_mem (out : AluOut) (hf : f ∉ [.c, .v, .n, .z]) :
    flagGet (aluFlags w out p) f = flagGet p f := by
  simp_all [aluFlags]

theorem flagGet_compareFlags_of_not_mem (reg op : Word) (hf : f ∉ [.c, .n, .z]) :
    flagGet (compareFlags w reg op p) f = flagGet p f := by
  simp_all [compareFlags]

theorem flagGet_bitZ_of_not_mem (a op : Word) (hf : f ∉ [.z]) : flagGet (bitZ w a op p) f = flagGet p f := by
  simp_all [bitZ]

theorem flagGet_bitNV_bitZ_of_not_mem (a op : Word) (hf : f ∉ [.n, .v, .z]) :
    flagGet (bitNV w op (bitZ w a op p)) f = flagGet p f := by
  simp_all [bitNV, bitZ]

end FlagComputations

/-- A read-modify-write computation writes no flag but those in `fs`. -/
def RmwFlags (fs : List Flag) (g : Width → Word → Byte → RmwOut) : Prop :=
  ∀ w v p, ∀ f ∉ fs, flagGet (g w v p).2 f = flagGet p f

/-- INC and DEC. -/
theorem rmwFlags_setNZ {r : Width → Word → Byte → Word} :
    RmwFlags [.n, .z] fun w v p => (r w v p, setNZ w (r w v p) p) := by
  intro w v p f hf
  simp_all

/-- The shifts and rotates. -/
theorem rmwFlags_setNZ_carry {r : Width → Word → Byte → Word} {c : Width → Word → Bool} :
    RmwFlags [.c, .n, .z] fun w v p => (r w v p, setNZ w (r w v p) (flagSet p .c (c w v))) := by
  intro w v p f hf
  simp_all

/-- TSB and TRB. -/
theorem rmwFlags_bitZ {r : Width → Word → Word} (a : Word) : RmwFlags [.z] fun w v p => (r w v, bitZ w a v p) :=
  fun w v p f hf => flagGet_bitZ_of_not_mem w p f a v hf

/-! High bytes under `x8`. -/

/-- Under `x8` a value that fits the index width has a zero high byte. -/
theorem Cpu.hiByte_zero_of_x8 {c : Cpu} {v : Word} (h : v.toNat < 2 ^ c.xw.bits) (h8 : c.x8 = true) :
    hiByte v = 0x00 := by
  rw [Cpu.xw, if_pos h8] at h
  exact hiByte_zero_of_lt h

theorem Cpu.hiByte_xw_mask {c : Cpu} (v : Word) (h8 : c.x8 = true) : hiByte (c.xw.mask v) = 0x00 :=
  Cpu.hiByte_zero_of_x8 (Width.mask_lt _ _) h8

/-! The copies of a block move. -/

theorem copyBlock_wf (delta : Word) (w : Width) (dst src : Byte) (n : Nat) (x y : Word) {b : Bus} (h : Memory.wf b.mem) :
    Memory.wf (copyBlock delta w dst src n x y b).2.2.mem := by
  induction n generalizing x y b with
  | zero => exact h
  | succ n ih => exact ih _ _ (Bus.write_wf (by simpa using h) _ _)

/-- At 8 bits the offsets of a block move keep a zero high byte. -/
theorem copyBlock_hiByte (delta : Word) (dst src : Byte) (n : Nat) (x y : Word) (b : Bus) :
    (hiByte x = 0x00 → hiByte (copyBlock delta .w8 dst src n x y b).1 = 0x00) ∧
      (hiByte y = 0x00 → hiByte (copyBlock delta .w8 dst src n x y b).2.1 = 0x00) := by
  induction n generalizing x y b with
  | zero => exact ⟨id, id⟩
  | succ n ih => exact ⟨fun _ => (ih ..).1 (hiByte_mask_w8 _), fun _ => (ih ..).2 (hiByte_mask_w8 _)⟩

/-! Each meaning. -/

section Meanings

variable (s : State) {m : Mnem}

theorem adcOp_effect (o : Operand) : Effect .adc s (adcOp s o) :=
  ((((Keeps.refl s).load o s.cpu.mw).writeA _ rfl).setP (flagGet_aluFlags_of_not_mem _ _ · _)
    (by decide)).ordinary (by decide)

theorem sbcOp_effect (o : Operand) : Effect .sbc s (sbcOp s o) :=
  ((((Keeps.refl s).load o s.cpu.mw).writeA _ rfl).setP (flagGet_aluFlags_of_not_mem _ _ · _)
    (by decide)).ordinary (by decide)

theorem compareOp_effect (w : Width) (reg : Word) (o : Operand) (hf : ∀ f ∈ [Flag.c, .n, .z], m ∈ writersOf f)
    (hm : m ∉ widthWriters) : Effect m s (compareOp s w reg o) :=
  (((Keeps.refl s).load o w).setP (flagGet_compareFlags_of_not_mem _ _ · _ _) hf).ordinary hm

theorem rmw_effect {fs : List Flag} {g : Width → Word → Byte → RmwOut} (o : RmwOperand) (hg : RmwFlags fs g)
    (hf : ∀ f ∈ fs, m ∈ writersOf f) (hm : m ∉ widthWriters) : Effect m s (s.rmw g o) := by
  cases o with
  | acc => exact (((Keeps.refl s).writeA _ rfl).setP (hg _ _ _) hf).ordinary hm
  | mem mode =>
    exact (((Keeps.refl s).setBus fun h => Bus.writeW_wf (by simpa using h) _ _ _).setP (hg _ _ _) hf).ordinary hm

theorem ldaOp_effect (o : Operand) : Effect .lda s (ldaOp s o) :=
  ((((Keeps.refl s).load o s.cpu.mw).writeA _ rfl).flagsNZ _ _ (by decide)).ordinary (by decide)

theorem ldxOp_effect (o : Operand) : Effect .ldx s (ldxOp s o) :=
  ((((Keeps.refl s).load o s.cpu.xw).setX fun _ => Cpu.hiByte_zero_of_x8 (o.load_lt _ _ _)).flagsNZ _ _
    (by decide)).ordinary (by decide)

theorem ldyOp_effect (o : Operand) : Effect .ldy s (ldyOp s o) :=
  ((((Keeps.refl s).load o s.cpu.xw).setY fun _ => Cpu.hiByte_zero_of_x8 (o.load_lt _ _ _)).flagsNZ _ _
    (by decide)).ordinary (by decide)

theorem store_effect (mode : MemMode) (w : Width) (v : Word) (hm : m ∉ widthWriters) : Effect m s (s.store mode w v) :=
  ((Keeps.refl s).setBus fun h => MemMode.store_wf h _ _ _ _).ordinary hm

theorem logicOp_effect (g : Word → Word → Word) (o : Operand) (hf : ∀ f ∈ [Flag.n, .z], m ∈ writersOf f)
    (hm : m ∉ widthWriters) : Effect m s (logicOp g s o) :=
  ((((Keeps.refl s).load o s.cpu.mw).writeA _ rfl).flagsNZ _ _ hf).ordinary hm

theorem bitMemOp_effect (mode : MemMode) : Effect .bit s (bitMemOp s mode) :=
  (((Keeps.refl s).load _ _).setP (flagGet_bitNV_bitZ_of_not_mem _ _ · _ _) (by decide)).ordinary (by decide)

theorem bitImmOp_effect (v : Imm) : Effect .bit s (bitImmOp s v) :=
  (((Keeps.refl s).load _ _).setP (flagGet_bitZ_of_not_mem _ _ · _ _) (by decide)).ordinary (by decide)

/-- X written at the index width, then N and Z. -/
theorem setX_flagsNZ_effect {v : Word} (w : Width) (hv : s.cpu.Inv → s.cpu.x8 = true → hiByte v = 0x00)
    (hf : ∀ f ∈ [Flag.n, .z], m ∈ writersOf f) (hm : m ∉ widthWriters) : Effect m s ((s.setX v).flagsNZ w v) :=
  (((Keeps.refl s).setX hv).flagsNZ w v hf).ordinary hm

/-- Y written at the index width, then N and Z. -/
theorem setY_flagsNZ_effect {v : Word} (w : Width) (hv : s.cpu.Inv → s.cpu.x8 = true → hiByte v = 0x00)
    (hf : ∀ f ∈ [Flag.n, .z], m ∈ writersOf f) (hm : m ∉ widthWriters) : Effect m s ((s.setY v).flagsNZ w v) :=
  (((Keeps.refl s).setY hv).flagsNZ w v hf).ordinary hm

theorem toA_effect (v : Word) (hf : ∀ f ∈ [Flag.n, .z], m ∈ writersOf f) (hm : m ∉ widthWriters) :
    Effect m s (s.toA v) :=
  (((Keeps.refl s).writeA v rfl).flagsNZ _ _ hf).ordinary hm

/-- All of A written, then N and Z (TDC, TSC, XBA). -/
theorem setA_flagsNZ_effect (w : Width) (v : Word) (ha : m ∈ accHighWriters) (hf : ∀ f ∈ [Flag.n, .z], m ∈ writersOf f)
    (hm : m ∉ widthWriters) : Effect m s ((s.setA v).flagsNZ w v) :=
  (((Keeps.refl s).setA v ha).flagsNZ _ _ hf).ordinary hm

theorem toS_effect (v : Word) (hm : m ∉ widthWriters) : Effect m s (s.toS v) :=
  ((Keeps.refl s).setS fun he => by rw [he]; exact hiByte_stackPtr_emulation v).ordinary hm

theorem tcd_effect : Effect .tcd s ((s.setD s.cpu.a).flagsNZ .w16 s.cpu.a) :=
  (((Keeps.refl s).setD _ (by decide)).flagsNZ _ _ (by decide)).ordinary (by decide)

theorem branchOp_effect (cond : Bool) (r : Byte) (hm : m ∉ widthWriters) : Effect m s (branchOp s cond r) := by
  unfold branchOp
  split
  · exact ((Keeps.refl s).setPC _).ordinary hm
  · exact (Keeps.refl s).ordinary hm

theorem setPC_effect (v : Word) (hm : m ∉ widthWriters) : Effect m s (s.setPC v) := ((Keeps.refl s).setPC v).ordinary hm

theorem jumpLong_effect (t : Addr) : Effect .jml s (s.jumpLong t) :=
  (((Keeps.refl s).setPB _ (by decide) (.inl (by decide))).setPC _).ordinary (by decide)

theorem jmpIndOp_effect (o : Word) : Effect .jmp s (jmpIndOp s o) :=
  (((Keeps.refl s).setBus (by simp [indTarget])).setPC _).ordinary (by decide)

theorem jmpIndXOp_effect (o : Word) : Effect .jmp s (jmpIndXOp s o) :=
  (((Keeps.refl s).setBus (by simp [indXTarget])).setPC _).ordinary (by decide)

theorem jmlIndOp_effect (o : Word) : Effect .jml s (jmlIndOp s o) :=
  ((((Keeps.refl s).setBus (by simp [indLongTarget])).setPB _ (by decide) (.inl (by decide))).setPC _).ordinary
    (by decide)

theorem call_effect (t : Word) : Effect .jsr s (s.call t) :=
  (((Keeps.refl s).stack (s.push16_only _)).setPC t).ordinary (by decide)

theorem jsrIndXOp_effect (o : Word) : Effect .jsr s (jsrIndXOp s o) :=
  ((((Keeps.refl s).setBus (by simp [indXTarget])).stack (State.push16_only _ _)).setPC _).ordinary (by decide)

theorem callLong_effect (t : Addr) : Effect .jsl s (s.callLong t) :=
  ((((Keeps.refl s).stack ((s.push8_only _).trans (State.push16_only _ _))).setPB _ (by decide)
    (.inl (by decide))).setPC _).ordinary (by decide)

theorem rtsOp_effect : Effect .rts s (rtsOp s) := (((Keeps.refl s).stack s.pull16_only).setPC _).ordinary (by decide)

theorem rtlOp_effect : Effect .rtl s (rtlOp s) :=
  ((((Keeps.refl s).stack (s.pull16_only.trans (State.pull8_only _))).setPC _).setPB _ (by decide)
    (.inl (by decide))).ordinary (by decide)

/-- A push. -/
theorem stack_effect {t : State} (h : StackOnly s t) (hm : m ∉ widthWriters) : Effect m s t :=
  ((Keeps.refl s).stack h).ordinary hm

theorem peiOp_effect (d : Byte) : Effect .pei s (peiOp s d) :=
  (((Keeps.refl s).setBus (by simp)).stack (State.push16_only _ _)).ordinary (by decide)

theorem plaOp_effect : Effect .pla s (plaOp s) := by
  have h := s.pullW_only s.cpu.mw
  exact ((((Keeps.refl s).stack h).writeA _ (by rw [h.cpu]; rfl)).flagsNZ _ _ (by decide)).ordinary (by decide)

/-- Under `x8` a value pulled at the index width has a zero high byte. -/
theorem pullW_hiByte (h8 : (s.pullW s.cpu.xw).2.cpu.x8 = true) : hiByte (s.pullW s.cpu.xw).1 = 0x00 :=
  Cpu.hiByte_zero_of_x8 (s.pullW_lt _) ((s.pullW_only _).x8 ▸ h8)

theorem plxOp_effect : Effect .plx s (plxOp s) :=
  ((((Keeps.refl s).stack (s.pullW_only _)).setX fun _ => pullW_hiByte s).flagsNZ _ _ (by decide)).ordinary (by decide)

theorem plyOp_effect : Effect .ply s (plyOp s) :=
  ((((Keeps.refl s).stack (s.pullW_only _)).setY fun _ => pullW_hiByte s).flagsNZ _ _ (by decide)).ordinary (by decide)

theorem plbOp_effect : Effect .plb s (plbOp s) :=
  ((((Keeps.refl s).stack s.pull8_only).setDB _ (by decide)).flagsNZ _ _ (by decide)).ordinary (by decide)

theorem pldOp_effect : Effect .pld s (pldOp s) :=
  ((((Keeps.refl s).stack s.pull16_only).setD _ (by decide)).flagsNZ _ _ (by decide)).ordinary (by decide)

theorem putFlag_effect (f : Flag) (v : Bool) (hf : ∀ g ∈ [f], m ∈ writersOf g) (hm : m ∉ widthWriters) :
    Effect m s (s.putFlag f v) :=
  ((Keeps.refl s).setP (fun _ hg => flagGet_flagSet_of_ne _ v (by simpa using hg)) hf).ordinary hm

theorem setRun_effect (v : RunState) (hr : m ∈ [.wai, .stp]) (hm : m ∉ widthWriters) : Effect m s (s.setRun v) :=
  ((Keeps.refl s).setRun v hr).ordinary hm

theorem blockMoveOp_effect (delta : Word) (dst src : Byte) (ha : m ∈ accHighWriters) (hd : m ∈ [.plb, .mvn, .mvp])
    (hm : m ∉ widthWriters) : Effect m s (blockMoveOp s delta dst src) := by
  have hw {c : Cpu} (h8 : c.x8 = true) : c.xw = .w8 := by rw [Cpu.xw, if_pos h8]
  refine ((((((Keeps.refl s).setBus (copyBlock_wf _ _ _ _ _ _ _)).setX fun hi h8 => ?_).setY fun hi h8 => ?_).setA _
    ha).setDB _ hd).ordinary hm
  · replace h8 : s.cpu.x8 = true := h8
    rw [hw h8]; exact (copyBlock_hiByte ..).1 (hi.1 h8).1
  · replace h8 : s.cpu.x8 = true := h8
    rw [hw h8]; exact (copyBlock_hiByte ..).2 (hi.1 h8).2

/-- Interrupt entry by an instruction writes P, PB, PC, S and the stack (R320, R321). -/
theorem interrupt_effect {kind : IntKind} (hk : kind ≠ .nmi) (hf : ∀ f ∈ [Flag.i, .d], m ∈ writersOf f)
    (hb : m ∈ [.jml, .jsl, .rtl, .rti, .brk, .cop]) (hm : m ∉ widthWriters) : Effect m s (s.interrupt kind) := by
  have hs := s.entryPushes_only kind
  have hp : ∀ f ∉ [Flag.i, .d],
      flagGet (flagSet (flagSet s.cpu.p .i true) .d false) f = flagGet (s.entryPushes kind).cpu.p f := fun f hf => by
    simp only [List.mem_cons, List.not_mem_nil, or_false, not_or] at hf
    simp [hf, hs.p]
  unfold State.interrupt
  simp only [if_neg hk]
  have hrti : m ≠ .rti := by rintro rfl; exact hm (by decide)
  refine (((((Keeps.refl s).stack hs).setP hp hf).setBus ?_).setPB _ hb (.inl hrti) |>.setPC _).ordinary hm
  rw [Bus.read16_mem]
  exact id

theorem repOp_effect (k : Byte) : Effect .rep s (repOp s k) :=
  ((Keeps.refl s).setAllStatus _ (by decide)).disciplined (by decide)

theorem sepOp_effect (k : Byte) : Effect .sep s (sepOp s k) :=
  ((Keeps.refl s).setAllStatus _ (by decide)).disciplined (by decide)

theorem plpOp_effect : Effect .plp s (plpOp s) :=
  (((Keeps.refl s).stack s.pull8_only).setAllStatus _ (by decide)).disciplined (by decide)

theorem xceOp_effect : Effect .xce s (xceOp s) := by
  refine (((Keeps.refl s).setE _ rfl).setP (fs := [.c, .m, .x]) (fun f hf => ?_) (by decide)).disciplined (by decide)
  simp only [List.mem_cons, List.not_mem_nil, or_false, not_or] at hf
  split <;> simp [hf]

theorem returnFromInterrupt_effect : Effect .rti s s.returnFromInterrupt := by
  have h := (((Keeps.refl s).stack (s.pull8_only.trans (State.pull16_only _))).setAllStatus (m := .rti) s.pull8.1
    (by decide)).setPC s.pull8.2.pull16.1
  unfold State.returnFromInterrupt
  simp only
  refine Keeps.disciplined ?_ (by decide)
  split
  · exact h
  · rename_i he
    exact (h.stack (State.pull8_only _)).setPB _ (by decide) (.inr (Bool.eq_false_iff.mpr he))

end Meanings

/-! Over all instructions. -/

/-- Every instruction goes on to a next state, with the effect that its mnemonic allows. -/
theorem exec_effect (i : Instr) (s : State) : ∃ t, exec i s = .next t ∧ Effect (mnem i) s t :=
  match i with
  | .adcDpXInd _ | .adcSr _ | .adcDp _ | .adcDpIndLong _ | .adcImm _ | .adcAbs _ | .adcLong _ | .adcDpIndY _ | .adcDpInd _
  | .adcSrIndY _ | .adcDpX _ | .adcDpIndLongY _ | .adcAbsY _ | .adcAbsX _ | .adcLongX _ =>
    ⟨_, rfl, adcOp_effect s _⟩
  | .sbcDpXInd _ | .sbcSr _ | .sbcDp _ | .sbcDpIndLong _ | .sbcImm _ | .sbcAbs _ | .sbcLong _ | .sbcDpIndY _ | .sbcDpInd _
  | .sbcSrIndY _ | .sbcDpX _ | .sbcDpIndLongY _ | .sbcAbsY _ | .sbcAbsX _ | .sbcLongX _ =>
    ⟨_, rfl, sbcOp_effect s _⟩
  | .cmpDpXInd _ | .cmpSr _ | .cmpDp _ | .cmpDpIndLong _ | .cmpImm _ | .cmpAbs _ | .cmpLong _ | .cmpDpIndY _ | .cmpDpInd _
  | .cmpSrIndY _ | .cmpDpX _ | .cmpDpIndLongY _ | .cmpAbsY _ | .cmpAbsX _ | .cmpLongX _ =>
    ⟨_, rfl, compareOp_effect (m := .cmp) s _ _ _ (by decide) (by decide)⟩
  | .cpxImm _ | .cpxDp _ | .cpxAbs _ => ⟨_, rfl, compareOp_effect (m := .cpx) s _ _ _ (by decide) (by decide)⟩
  | .cpyImm _ | .cpyDp _ | .cpyAbs _ => ⟨_, rfl, compareOp_effect (m := .cpy) s _ _ _ (by decide) (by decide)⟩
  | .ldaDpXInd _ | .ldaSr _ | .ldaDp _ | .ldaDpIndLong _ | .ldaImm _ | .ldaAbs _ | .ldaLong _ | .ldaDpIndY _ | .ldaDpInd _
  | .ldaSrIndY _ | .ldaDpX _ | .ldaDpIndLongY _ | .ldaAbsY _ | .ldaAbsX _ | .ldaLongX _ =>
    ⟨_, rfl, ldaOp_effect s _⟩
  | .ldxImm _ | .ldxDp _ | .ldxAbs _ | .ldxDpY _ | .ldxAbsY _ => ⟨_, rfl, ldxOp_effect s _⟩
  | .ldyImm _ | .ldyDp _ | .ldyAbs _ | .ldyDpX _ | .ldyAbsX _ => ⟨_, rfl, ldyOp_effect s _⟩
  | .andDpXInd _ | .andSr _ | .andDp _ | .andDpIndLong _ | .andImm _ | .andAbs _ | .andLong _ | .andDpIndY _ | .andDpInd _
  | .andSrIndY _ | .andDpX _ | .andDpIndLongY _ | .andAbsY _ | .andAbsX _ | .andLongX _ =>
    ⟨_, rfl, logicOp_effect (m := .and) s _ _ (by decide) (by decide)⟩
  | .oraDpXInd _ | .oraSr _ | .oraDp _ | .oraDpIndLong _ | .oraImm _ | .oraAbs _ | .oraLong _ | .oraDpIndY _ | .oraDpInd _
  | .oraSrIndY _ | .oraDpX _ | .oraDpIndLongY _ | .oraAbsY _ | .oraAbsX _ | .oraLongX _ =>
    ⟨_, rfl, logicOp_effect (m := .ora) s _ _ (by decide) (by decide)⟩
  | .eorDpXInd _ | .eorSr _ | .eorDp _ | .eorDpIndLong _ | .eorImm _ | .eorAbs _ | .eorLong _ | .eorDpIndY _ | .eorDpInd _
  | .eorSrIndY _ | .eorDpX _ | .eorDpIndLongY _ | .eorAbsY _ | .eorAbsX _ | .eorLongX _ =>
    ⟨_, rfl, logicOp_effect (m := .eor) s _ _ (by decide) (by decide)⟩
  | .bitDp _ | .bitAbs _ | .bitDpX _ | .bitAbsX _ => ⟨_, rfl, bitMemOp_effect s _⟩
  | .bitImm _ => ⟨_, rfl, bitImmOp_effect s _⟩
  | .staDpXInd _ | .staSr _ | .staDp _ | .staDpIndLong _ | .staAbs _ | .staLong _ | .staDpIndY _ | .staDpInd _
  | .staSrIndY _ | .staDpX _ | .staDpIndLongY _ | .staAbsY _ | .staAbsX _ | .staLongX _ =>
    ⟨_, rfl, store_effect (m := .sta) s _ _ _ (by decide)⟩
  | .stxDp _ | .stxAbs _ | .stxDpY _ => ⟨_, rfl, store_effect (m := .stx) s _ _ _ (by decide)⟩
  | .styDp _ | .styAbs _ | .styDpX _ => ⟨_, rfl, store_effect (m := .sty) s _ _ _ (by decide)⟩
  | .stzDp _ | .stzDpX _ | .stzAbs _ | .stzAbsX _ => ⟨_, rfl, store_effect (m := .stz) s _ _ _ (by decide)⟩
  | .incA | .incDp _ | .incAbs _ | .incDpX _ | .incAbsX _ =>
    ⟨_, rfl, rmw_effect (m := .inc) s _ rmwFlags_setNZ (by decide) (by decide)⟩
  | .decA | .decDp _ | .decAbs _ | .decDpX _ | .decAbsX _ =>
    ⟨_, rfl, rmw_effect (m := .dec) s _ rmwFlags_setNZ (by decide) (by decide)⟩
  | .aslA | .aslDp _ | .aslAbs _ | .aslDpX _ | .aslAbsX _ =>
    ⟨_, rfl, rmw_effect (m := .asl) s _ rmwFlags_setNZ_carry (by decide) (by decide)⟩
  | .lsrA | .lsrDp _ | .lsrAbs _ | .lsrDpX _ | .lsrAbsX _ =>
    ⟨_, rfl, rmw_effect (m := .lsr) s _ rmwFlags_setNZ_carry (by decide) (by decide)⟩
  | .rolA | .rolDp _ | .rolAbs _ | .rolDpX _ | .rolAbsX _ =>
    ⟨_, rfl, rmw_effect (m := .rol) s _ rmwFlags_setNZ_carry (by decide) (by decide)⟩
  | .rorA | .rorDp _ | .rorAbs _ | .rorDpX _ | .rorAbsX _ =>
    ⟨_, rfl, rmw_effect (m := .ror) s _ rmwFlags_setNZ_carry (by decide) (by decide)⟩
  | .tsbDp _ | .tsbAbs _ => ⟨_, rfl, rmw_effect (m := .tsb) s _ (rmwFlags_bitZ _) (by decide) (by decide)⟩
  | .trbDp _ | .trbAbs _ => ⟨_, rfl, rmw_effect (m := .trb) s _ (rmwFlags_bitZ _) (by decide) (by decide)⟩
  | .inx => ⟨_, rfl, setX_flagsNZ_effect (m := .inx) s _ (fun _ => Cpu.hiByte_xw_mask _) (by decide) (by decide)⟩
  | .dex => ⟨_, rfl, setX_flagsNZ_effect (m := .dex) s _ (fun _ => Cpu.hiByte_xw_mask _) (by decide) (by decide)⟩
  | .tax => ⟨_, rfl, setX_flagsNZ_effect (m := .tax) s _ (fun _ => Cpu.hiByte_xw_mask _) (by decide) (by decide)⟩
  | .tsx => ⟨_, rfl, setX_flagsNZ_effect (m := .tsx) s _ (fun _ => Cpu.hiByte_xw_mask _) (by decide) (by decide)⟩
  | .iny => ⟨_, rfl, setY_flagsNZ_effect (m := .iny) s _ (fun _ => Cpu.hiByte_xw_mask _) (by decide) (by decide)⟩
  | .dey => ⟨_, rfl, setY_flagsNZ_effect (m := .dey) s _ (fun _ => Cpu.hiByte_xw_mask _) (by decide) (by decide)⟩
  | .tay => ⟨_, rfl, setY_flagsNZ_effect (m := .tay) s _ (fun _ => Cpu.hiByte_xw_mask _) (by decide) (by decide)⟩
  | .tyx => ⟨_, rfl, setX_flagsNZ_effect (m := .tyx) s _ (fun hi h8 => (hi.1 h8).2) (by decide) (by decide)⟩
  | .txy => ⟨_, rfl, setY_flagsNZ_effect (m := .txy) s _ (fun hi h8 => (hi.1 h8).1) (by decide) (by decide)⟩
  | .txa => ⟨_, rfl, toA_effect (m := .txa) s _ (by decide) (by decide)⟩
  | .tya => ⟨_, rfl, toA_effect (m := .tya) s _ (by decide) (by decide)⟩
  | .tdc => ⟨_, rfl, setA_flagsNZ_effect (m := .tdc) s _ _ (by decide) (by decide) (by decide)⟩
  | .tsc => ⟨_, rfl, setA_flagsNZ_effect (m := .tsc) s _ _ (by decide) (by decide) (by decide)⟩
  | .xba => ⟨_, rfl, setA_flagsNZ_effect (m := .xba) s _ _ (by decide) (by decide) (by decide)⟩
  | .txs => ⟨_, rfl, toS_effect (m := .txs) s _ (by decide)⟩
  | .tcs => ⟨_, rfl, toS_effect (m := .tcs) s _ (by decide)⟩
  | .tcd => ⟨_, rfl, tcd_effect s⟩
  | .bpl _ => ⟨_, rfl, branchOp_effect (m := .bpl) s _ _ (by decide)⟩
  | .bmi _ => ⟨_, rfl, branchOp_effect (m := .bmi) s _ _ (by decide)⟩
  | .bvc _ => ⟨_, rfl, branchOp_effect (m := .bvc) s _ _ (by decide)⟩
  | .bvs _ => ⟨_, rfl, branchOp_effect (m := .bvs) s _ _ (by decide)⟩
  | .bcc _ => ⟨_, rfl, branchOp_effect (m := .bcc) s _ _ (by decide)⟩
  | .bcs _ => ⟨_, rfl, branchOp_effect (m := .bcs) s _ _ (by decide)⟩
  | .bne _ => ⟨_, rfl, branchOp_effect (m := .bne) s _ _ (by decide)⟩
  | .beq _ => ⟨_, rfl, branchOp_effect (m := .beq) s _ _ (by decide)⟩
  | .bra _ => ⟨_, rfl, branchOp_effect (m := .bra) s _ _ (by decide)⟩
  | .brl _ => ⟨_, rfl, setPC_effect (m := .brl) s _ (by decide)⟩
  | .jmpAbs _ => ⟨_, rfl, setPC_effect (m := .jmp) s _ (by decide)⟩
  | .jmpInd _ => ⟨_, rfl, jmpIndOp_effect s _⟩
  | .jmpIndX _ => ⟨_, rfl, jmpIndXOp_effect s _⟩
  | .jmlLong _ => ⟨_, rfl, jumpLong_effect s _⟩
  | .jmlInd _ => ⟨_, rfl, jmlIndOp_effect s _⟩
  | .jsrAbs _ => ⟨_, rfl, call_effect s _⟩
  | .jsrIndX _ => ⟨_, rfl, jsrIndXOp_effect s _⟩
  | .jsl _ => ⟨_, rfl, callLong_effect s _⟩
  | .rts => ⟨_, rfl, rtsOp_effect s⟩
  | .rtl => ⟨_, rfl, rtlOp_effect s⟩
  | .pha => ⟨_, rfl, stack_effect (m := .pha) s (s.pushW_only _ _) (by decide)⟩
  | .phx => ⟨_, rfl, stack_effect (m := .phx) s (s.pushW_only _ _) (by decide)⟩
  | .phy => ⟨_, rfl, stack_effect (m := .phy) s (s.pushW_only _ _) (by decide)⟩
  | .php => ⟨_, rfl, stack_effect (m := .php) s (s.push8_only _) (by decide)⟩
  | .phb => ⟨_, rfl, stack_effect (m := .phb) s (s.push8_only _) (by decide)⟩
  | .phk => ⟨_, rfl, stack_effect (m := .phk) s (s.push8_only _) (by decide)⟩
  | .phd => ⟨_, rfl, stack_effect (m := .phd) s (s.push16_only _) (by decide)⟩
  | .pea _ => ⟨_, rfl, stack_effect (m := .pea) s (s.push16_only _) (by decide)⟩
  | .per _ => ⟨_, rfl, stack_effect (m := .per) s (s.push16_only _) (by decide)⟩
  | .pei _ => ⟨_, rfl, peiOp_effect s _⟩
  | .pla => ⟨_, rfl, plaOp_effect s⟩
  | .plx => ⟨_, rfl, plxOp_effect s⟩
  | .ply => ⟨_, rfl, plyOp_effect s⟩
  | .plb => ⟨_, rfl, plbOp_effect s⟩
  | .pld => ⟨_, rfl, pldOp_effect s⟩
  | .plp => ⟨_, rfl, plpOp_effect s⟩
  | .clc => ⟨_, rfl, putFlag_effect (m := .clc) s _ _ (by decide) (by decide)⟩
  | .sec => ⟨_, rfl, putFlag_effect (m := .sec) s _ _ (by decide) (by decide)⟩
  | .cli => ⟨_, rfl, putFlag_effect (m := .cli) s _ _ (by decide) (by decide)⟩
  | .sei => ⟨_, rfl, putFlag_effect (m := .sei) s _ _ (by decide) (by decide)⟩
  | .cld => ⟨_, rfl, putFlag_effect (m := .cld) s _ _ (by decide) (by decide)⟩
  | .sed => ⟨_, rfl, putFlag_effect (m := .sed) s _ _ (by decide) (by decide)⟩
  | .clv => ⟨_, rfl, putFlag_effect (m := .clv) s _ _ (by decide) (by decide)⟩
  | .rep _ => ⟨_, rfl, repOp_effect s _⟩
  | .sep _ => ⟨_, rfl, sepOp_effect s _⟩
  | .xce => ⟨_, rfl, xceOp_effect s⟩
  | .brk _ => ⟨_, rfl, interrupt_effect (m := .brk) s nofun (by decide) (by decide) (by decide)⟩
  | .cop _ => ⟨_, rfl, interrupt_effect (m := .cop) s nofun (by decide) (by decide) (by decide)⟩
  | .rti => ⟨_, rfl, returnFromInterrupt_effect s⟩
  | .nop => ⟨_, rfl, (Keeps.refl (m := .nop) s).ordinary (by decide)⟩
  | .wdm _ => ⟨_, rfl, (Keeps.refl (m := .wdm) s).ordinary (by decide)⟩
  | .wai => ⟨_, rfl, setRun_effect (m := .wai) s _ (by decide) (by decide)⟩
  | .stp => ⟨_, rfl, setRun_effect (m := .stp) s _ (by decide) (by decide)⟩
  | .mvn _ _ => ⟨_, rfl, blockMoveOp_effect (m := .mvn) s _ _ _ (by decide) (by decide) (by decide)⟩
  | .mvp _ _ => ⟨_, rfl, blockMoveOp_effect (m := .mvp) s _ _ _ (by decide) (by decide) (by decide)⟩

/-- What an instruction that answers a next state leaves alone. -/
theorem effect_of_exec {i : Instr} {s t : State} (h : exec i s = .next t) : Effect (mnem i) s t := by
  obtain ⟨t', ht, heff⟩ := exec_effect i s
  rw [ht] at h
  cases h
  exact heff

end Sys2Proof.Machine
end

section
/-! PROOFS. What the instructions' effect says of registers, flags and the hidden byte of A, and the invariant of a step:
settles O6, O14, O15 and O17. -/

namespace Sys2Proof.Machine

open Sys2Proof.Claims

/-! The width discipline leaves the invariant and clears hidden high bytes (R31). -/

theorem State.widthDiscipline_inv (u : State) : u.widthDiscipline.cpu.Inv := by
  rw [State.widthDiscipline_eq]
  refine ⟨fun h8 => ?_, fun he => ?_⟩
  · replace h8 : u.cpu.x8 = true := h8
    simp only [h8, if_true]
    exact ⟨hiByte_mask_w8 _, hiByte_mask_w8 _⟩
  · replace he : u.cpu.e = true := he
    simp only [he]
    exact hiByte_stackPtr_emulation _

theorem State.widthDiscipline_accHigh (u : State) (h8 : u.widthDiscipline.cpu.m8 = true) :
    hiByte u.widthDiscipline.cpu.a = 0x00 := by
  rw [State.widthDiscipline_eq] at h8 ⊢
  replace h8 : u.cpu.m8 = true := h8
  simp only [h8, if_true]
  exact hiByte_mask_w8 _

namespace Effect

variable {m : Mnem} {s t : State}

theorem inv (h : Effect m s t) (hs : s.cpu.Inv) : t.cpu.Inv := by
  by_cases hm : m ∈ widthWriters
  · obtain ⟨u, rfl⟩ := h.disciplined hm
    exact u.widthDiscipline_inv
  · exact h.keeps.inv hm hs

theorem accHigh_of_disciplined (h : Effect m s t) (hm : m ∈ widthWriters) (h8 : t.cpu.m8 = true) :
    hiByte t.cpu.a = 0x00 := by
  obtain ⟨u, rfl⟩ := h.disciplined hm
  exact u.widthDiscipline_accHigh h8

/-- R32 item 3: in emulation mode afterwards the high byte of A stays zero, but for the five that write all of A. -/
theorem accHigh_zero (h : Effect m s t) (he : t.cpu.e = true) (hs : hiByte s.cpu.a = 0x00)
    (hm : m ∉ [.xba, .tdc, .tsc, .mvn, .mvp]) : hiByte t.cpu.a = 0x00 := by
  have h8 : t.cpu.m8 = true := by rw [Cpu.m8, he, Bool.true_or]
  by_cases hw : m ∈ widthWriters
  · exact h.accHigh_of_disciplined hw h8
  · rw [h.keeps.accHigh (h.keeps.m8 hw ▸ h8) fun hn => (List.mem_append.mp hn).elim hw hm, hs]

end Effect

/-- Settles O14: read off what each mnemonic keeps. -/
theorem registerWriters : Obligations.RegisterWriters := by
  intro i s t h
  have hk := (effect_of_exec h).keeps
  have hi := hk.inputs
  simp only [State.inputs, Prod.mk.injEq] at hi
  obtain ⟨hnmi, hbudget, hirq, hreset, henv, hcost⟩ := hi
  exact ⟨hk.d, hk.db, fun hm => hk.pb (.inl hm), fun hm he => hk.pb (.inr ⟨hm, he⟩), hk.e, hk.run, hnmi, hbudget, hirq,
    hreset, henv, hcost⟩

/-- BIT immediate writes no flag but Z (R213). -/
theorem bitImmOp_flagGet (s : State) (v : Imm) {f : Flag} (hf : f ∉ [.z]) :
    flagGet (bitImmOp s v).cpu.p f = flagGet s.cpu.p f :=
  flagGet_bitZ_of_not_mem _ _ _ _ _ hf

/-- Settles O15: BIT immediate on its own, every other instruction by its mnemonic. -/
theorem flagWriters : Obligations.FlagWriters := by
  intro i s t f h hw
  rw [← flagGet_eq_bitOf, ← flagGet_eq_bitOf]
  by_cases hb : ∃ v, i = .bitImm v
  · obtain ⟨v, rfl⟩ := hb
    cases h
    refine bitImmOp_flagGet s v fun hf => ?_
    obtain rfl := List.mem_singleton.mp hf
    exact hw ⟨show Mnem.bit ∈ writersOf .z by decide, fun _ => by decide⟩
  · exact (effect_of_exec h).keeps.flags f fun hm => hw ⟨hm, fun hb' => absurd hb' hb⟩

theorem toNat_div_eq_zero_iff (v : Word) : v.toNat / 256 = 0 ↔ hiByte v = 0x00 := by
  rw [← hiByte_toNat]
  exact ⟨fun h => BitVec.eq_of_toNat_eq h, fun h => by rw [h]; rfl⟩

/-- Settles O17: an ordinary instruction keeps the byte, the width discipline clears it. -/
theorem hiddenAccumulatorByte : Obligations.HiddenAccumulatorByte := by
  intro i s t h
  have heff := effect_of_exec h
  simp only [toNat_div_eq_zero_iff]
  refine ⟨fun h8 hm => ?_, fun h8 hm => heff.accHigh_of_disciplined hm h8, heff.accHigh_zero⟩
  rw [← hiByte_toNat, ← hiByte_toNat, heff.keeps.accHigh h8 hm]

/-! The invariant of a step (R32). -/

theorem exec_inv {i : Instr} {s t : State} (h : exec i s = .next t) (hs : s.Inv) : t.Inv := by
  have heff := effect_of_exec h
  obtain ⟨hcpu, hwf, henv⟩ := hs
  have hi := heff.keeps.inputs
  simp only [State.inputs, Prod.mk.injEq] at hi
  exact ⟨heff.inv hcpu, heff.keeps.wf hwf, hi.2.2.2.2.1 ▸ henv⟩

theorem FetchOnly.inv {s t : State} (h : FetchOnly s t) (hs : s.Inv) : t.Inv := by
  obtain ⟨hcpu, hwf, henv⟩ := hs
  exact ⟨by rw [h.cpu]; exact hcpu, h.mem ▸ hwf, h.env ▸ henv⟩

theorem State.charge_inv {s : State} (hs : s.Inv) : s.charge.Inv := hs

theorem instrStep_inv {s t : State} (h : instrStep s = .next t) (hs : s.Inv) : t.Inv := by
  obtain ⟨i, u, -, hexec, hstep⟩ := instrStep_cases s
  rw [hstep] at h
  cases h
  exact State.charge_inv (exec_inv hexec (s.fetchInstr_only.inv hs))

/-- Interrupt entry keeps the invariant: X is no flag it writes, and the pushes keep `S` in its page (R356). -/
theorem State.interrupt_inv {s : State} (hs : s.Inv) (kind : IntKind) : (s.interrupt kind).Inv := by
  have h := s.entryPushes_only kind
  obtain ⟨⟨hxy, hpage⟩, hwf, henv⟩ := hs
  rw [State.interrupt_eq]
  refine ⟨⟨fun h8 => ?_, fun he => h.page (h.e ▸ he)⟩, by simpa using h.wf hwf, h.env ▸ henv⟩
  have h8' : s.cpu.x8 = true := by simpa [Cpu.x8, h.e] using h8
  rw [h.cpu]
  exact hxy h8'

theorem State.takeInterrupt_inv {s : State} (hs : s.Inv) (kind : IntKind) : (s.takeInterrupt kind).Inv :=
  State.interrupt_inv (s := s.setRun .running) hs kind

theorem State.resetCpu_inv {s : State} (hs : s.Inv) (lows : ResetLows) : (s.resetCpu lows).Inv := by
  obtain ⟨-, hwf, henv⟩ := hs
  have low (v : Byte) : hiByte (v.setWidth 16) = 0x00 := hiByte_zero_of_lt (by have := v.isLt; simp; omega)
  exact ⟨⟨fun _ => ⟨low _, low _⟩, fun _ => show hiByte 0x01FF#16 = 0x01 by decide⟩,
    by simpa [State.resetCpu, Bus.tell] using hwf, henv⟩

theorem State.applyEvent_inv {s : State} (hs : s.Inv) {ev : EnvEvent} (hev : ev.sound) : (s.applyEvent ev).Inv := by
  obtain ⟨hcpu, hwf, henv⟩ := hs
  refine ⟨?_, State.applyEvent_wf hwf hev, by rwa [State.applyEvent_env]⟩
  cases ev with
  | loadState c => exact hev
  | vblank => simp only [State.applyEvent]; split <;> exact hcpu
  | _ => exact hcpu

theorem State.pollEnv_inv {s : State} (hs : s.Inv) : s.pollEnv.Inv := by
  unfold State.pollEnv
  split
  · exact hs
  · rename_i events rest hscript
    obtain ⟨hcpu, hwf, henv⟩ := hs
    rw [hscript] at henv
    refine State.applyEvents_induct (P := State.Inv) ⟨hcpu, hwf, fun es hes => henv es (by simp [hes])⟩
      fun t ev hev ht => ?_
    exact State.applyEvent_inv ht (henv events (by simp) ev hev)

theorem boundaryStep_inv {s t : State} (h : boundaryStep s = .next t) (hs : s.Inv) : t.Inv := by
  obtain ⟨lows, -, hm⟩ | ⟨-, hm⟩ | ⟨-, -, -, hm⟩ | ⟨-, -, -, -, -, hm⟩ | ⟨-, -, hm⟩ | ⟨-, -, -, hm⟩ :=
    boundaryStep_cases s <;> rw [hm] at h
  case inr.inr.inr.inr.inr => exact instrStep_inv h hs
  all_goals cases h
  · exact State.resetCpu_inv hs lows
  · exact hs
  · exact State.charge_inv (State.takeInterrupt_inv hs .nmi)
  · exact State.charge_inv (State.takeInterrupt_inv hs .irq)
  · exact hs

/-- Settles O6: the events keep the invariant, and so does every move at the boundary. -/
theorem stepKeepsInvariant : Obligations.StepKeepsInvariant :=
  fun _ _ hs h => boundaryStep_inv h (State.pollEnv_inv hs)

end Sys2Proof.Machine
end

section
/-! PROOFS. Bus reads in the statements' vocabulary, a quiet boundary, the reset step, and `clock()`: settles O7,
O8 and O12. -/

namespace Sys2Proof.Machine

open Sys2Proof.Claims

/-! Addresses and words as numbers (R8, R61). -/

theorem mkAddr_eq_byteAddr (bank : Byte) (off : Word) : mkAddr bank off = byteAddr bank.toNat off.toNat := by
  apply BitVec.eq_of_toNat_eq
  have hbank := bank.isLt
  have hoff := off.isLt
  rw [mkAddr_toNat, byteAddr, BitVec.toNat_ofNat]
  omega

theorem byteAddr_mod (bank off : Nat) : byteAddr bank (off % 65536) = byteAddr bank off := by
  simp [byteAddr]

theorem inBank_mkAddr (bank : Byte) (off : Word) (i : Nat) :
    inBank (mkAddr bank off) i = byteAddr bank.toNat (off.toNat + i) := by
  have hbank : bankOf (mkAddr bank off) = bank := BitVec.extractLsb'_append_eq_left
  have hoff : offOf (mkAddr bank off) = off := BitVec.extractLsb'_append_eq_right
  rw [inBank, hbank, hoff, mkAddr_eq_byteAddr, BitVec.toNat_add, BitVec.toNat_ofNat, Nat.add_mod_mod, byteAddr_mod]

theorem wordOf_eq_ofNat_leNat (lo hi : Byte) : wordOf lo hi = BitVec.ofNat 16 (leNat [lo, hi]) := by
  apply BitVec.eq_of_toNat_eq
  have := lo.isLt
  have := hi.isLt
  rw [wordOf_toNat, BitVec.toNat_ofNat]
  simp only [leNat]
  omega

/-- A word read is the number that its two bytes stand for (R61). -/
theorem Bus.read16_mkAddr (b : Bus) (bank : Byte) (off : Word) :
    b.read16 (mkAddr bank off) =
      (BitVec.ofNat 16 (leRead 2 bank.toNat off.toNat b).1, (leRead 2 bank.toNat off.toNat b).2) := by
  simp only [Bus.read16, inBank_mkAddr, wordOf_eq_ofNat_leNat]
  rfl

theorem leRead_lt_word (bank off : Nat) (b : Bus) : (leRead 2 bank off b).1 < 65536 := by
  have h0 := (b.read (byteAddr bank off)).1.isLt
  have h1 := ((b.read (byteAddr bank off)).2.read (byteAddr bank (off + 1))).1.isLt
  simp only [leRead, readSeq, leNat]
  omega

/-- Reads leave every cell of memory as it was. -/
theorem readSeq_mem (n bank off : Nat) (b : Bus) : (readSeq n bank off b).2.mem = b.mem := by
  induction n generalizing off b with
  | zero => rfl
  | succ n ih => rw [readSeq, ih, Bus.read_mem]

theorem leRead_sameBytes (n bank off : Nat) (b : Bus) : SameBytes b (leRead n bank off b).2 := fun k =>
  congrArg (·.read k) (readSeq_mem n bank off b)

/-! A quiet boundary. -/

theorem State.pollEnv_of_quiet {s : State} (h : Quiet s) : s.pollEnv = polled s := by
  cases hs : s.env with
  | nil => rw [State.pollEnv_quiet hs, polled, hs, List.tail_nil, ← hs]
  | cons events rest =>
    rw [Quiet, hs] at h
    obtain rfl : events = [] := h
    simp [State.pollEnv, polled, hs]

theorem step_of_quiet {s : State} (h : Quiet s) : step s = boundaryStep (polled s) := by
  rw [step, State.pollEnv_of_quiet h]

/-! The reset step. -/

theorem boundaryStep_reset {s : State} {lows : ResetLows} (h : s.resetReq = some lows) :
    boundaryStep s = .next (s.resetCpu lows) := by
  simp [boundaryStep, State.move, h]

theorem resetPC_ofNat {n : Nat} (h : n < 65536) :
    resetPC (BitVec.ofNat 16 n) = if n = 0 then 0x8000 else BitVec.ofNat 16 n := by
  have hz : BitVec.ofNat 16 n = 0 ↔ n = 0 := by
    rw [← BitVec.toNat_inj, BitVec.toNat_ofNat, Nat.mod_eq_of_lt h]
    rfl
  simp only [resetPC, hz]

/-- A reset reads the vector's two bytes and writes no memory; what `$4200` and the units' record then hold stands
apart. -/
theorem State.resetCpu_eq (s : State) (lows : ResetLows) :
    s.resetCpu lows =
      { s with
        cpu :=
          { Cpu.reset with
            a := BitVec.ofNat 16 lows.aLow.toNat
            x := BitVec.ofNat 16 lows.xLow.toNat
            y := BitVec.ofNat 16 lows.yLow.toNat
            pc := if (leRead 2 0 0xFFFC s.bus).1 = 0 then 0x8000 else BitVec.ofNat 16 (leRead 2 0 0xFFFC s.bus).1 }
        resetReq := none
        bus :=
          { (leRead 2 0 0xFFFC s.bus).2 with
            nmitimen := Config.resetNmitimen (.reset :: (leRead 2 0 0xFFFC s.bus).2.unitLog)
            unitLog := .reset :: (leRead 2 0 0xFFFC s.bus).2.unitLog } } := by
  have hread : s.bus.read16 (mkAddr 0x00 0xFFFC) = _ := s.bus.read16_mkAddr 0x00 0xFFFC
  simp only [State.resetCpu, hread, BitVec.ofNat_toNat, ← resetPC_ofNat (leRead_lt_word 0 0xFFFC s.bus)]
  rfl

/-- Settles O8: the reset comes before every other move, and its two Bus accesses are the reads of the vector. -/
theorem resetStepLeavesResetValues : Obligations.ResetStepLeavesResetValues := by
  intro s lows hquiet hreset
  have hstep : step s = .next ((polled s).resetCpu lows) := by
    rw [step_of_quiet hquiet, boundaryStep_reset (s := polled s) hreset]
  exact ⟨_, _, hstep.trans (congrArg _ (State.resetCpu_eq _ _)), leRead_sameBytes 2 0 0xFFFC s.bus⟩

/-- Settles O7: the empty memory's reset vector is zero, so the reset step goes to `$8000`. -/
theorem resetStateIsWhatResetLeaves : Obligations.ResetStateIsWhatResetLeaves := by
  refine ⟨⟨⟨by decide, by decide⟩, Memory.wf_nil, nofun⟩, ?_⟩
  have hvector : leRead 2 0 0xFFFC Bus.reset = (0, Bus.reset) := by decide
  refine ⟨_, boundaryStep_reset rfl, ?_⟩
  rw [State.resetCpu_eq]
  simp only [State.pollEnv, State.reset, hvector]
  exact ⟨rfl, trivial⟩

/-! `clock()`. -/

theorem clock_of_budget_succ {s : State} {n : Nat} (h : s.cpu.budget = n + 1) : clock s = .next (s.setBudget n) := by
  simp [clock, h]

theorem clock_of_budget_zero {s : State} (h : s.cpu.budget = 0) : clock s = step s := by
  simp [clock, h]

theorem clocks_add_budget (n k : Nat) {s : State} (h : s.cpu.budget = n) :
    clocks (n + k) s = clocks k (s.setBudget 0) := by
  induction n generalizing s with
  | zero => rw [Nat.zero_add, ← h]; rfl
  | succ n ih =>
    rw [Nat.add_right_comm, clocks, clock_of_budget_succ h]
    exact ih rfl

theorem clocks_one (s : State) : clocks 1 s = clock s := by
  simp only [clocks]
  cases clock s <;> rfl

/-- Settles O12: by induction on the budget. -/
theorem clockCountsBudgetDown : Obligations.ClockCountsBudgetDown := by
  intro s
  refine ⟨clocks_add_budget s.cpu.budget 0 rfl, ?_⟩
  rw [clocks_add_budget s.cpu.budget 1 rfl, clocks_one]
  exact clock_of_budget_zero rfl

end Sys2Proof.Machine
end

section
/-! PROOFS. What is pushed onto plain cells is pulled back (R33 to R36): a call and its return, an interrupt and RTI.
Settles O49 and O58. -/

namespace Sys2Proof.Machine

open Sys2Proof.Claims

/-! The stack pointer. -/

/-- `S` after a push (R33). -/
theorem below_eq_stackPtr (e : Bool) (sp : Word) : below e sp = stackPtr e (sp - 1) := by
  apply BitVec.eq_of_toNat_eq
  have := sp.isLt
  rw [stackPtr_toNat, BitVec.toNat_sub]
  cases e <;> simp [below] <;> omega

/-- In page `$01` (emulation mode) or anywhere (native mode), writing `S` back leaves it as it is (R23). -/
theorem stackPtr_of_page {e : Bool} {sp : Word} (hpage : e = true → hiByte sp = 0x01) : stackPtr e sp = sp := by
  apply BitVec.eq_of_toNat_eq
  rw [stackPtr_toNat]
  cases e with
  | false => rfl
  | true =>
    have hhi : sp.toNat / 256 = 1 := by rw [← hiByte_toNat, hpage rfl]; rfl
    simp only [if_true]
    omega

/-- A pull moves `S` back to where a push found it. -/
theorem stackPtr_after_push {e : Bool} {sp : Word} (hpage : e = true → hiByte sp = 0x01) :
    stackPtr e (stackPtr e (sp - 1) + 1) = sp := by
  apply BitVec.eq_of_toNat_eq
  have hsp := congrArg BitVec.toNat (stackPtr_of_page hpage)
  have := sp.isLt
  rw [stackPtr_toNat] at hsp
  rw [stackPtr_toNat, BitVec.toNat_add, stackPtr_toNat, BitVec.toNat_sub]
  cases e <;> simp at hsp ⊢ <;> omega

/-! Bytes on the stack. -/

/-- Pulls from `sp` on find these bytes, each in a cell of memory, the last of them at `top` (R34). -/
def Stacked (c : BusParams) (m : Memory) (e : Bool) (top : Word) : List Byte → Word → Prop
  | [], sp => sp = top
  | v :: rest, sp =>
    (∃ k, cellOf c (mkAddr 0x00 (stackPtr e (sp + 1))) = some k ∧ m.read k = v) ∧
      Stacked c m e top rest (stackPtr e (sp + 1))

/-- One more byte above those on the stack. -/
theorem Stacked.append {c : BusParams} {m : Memory} {e : Bool} {mid top : Word} {v : Byte} {k : Nat} {bytes : List Byte}
    {sp : Word} (h : Stacked c m e mid bytes sp) (htop : stackPtr e (mid + 1) = top)
    (hk : cellOf c (mkAddr 0x00 top) = some k) (hv : m.read k = v) : Stacked c m e top (bytes ++ [v]) sp := by
  induction bytes generalizing sp with
  | nil =>
    obtain rfl : sp = mid := h
    subst htop
    exact ⟨⟨k, hk, hv⟩, rfl⟩
  | cons w rest ih => exact ⟨h.1, ih h.2⟩

/-- The bytes on the stack of a state, with no cheat patch in the way. -/
structure OnStack (top : Word) (bytes : List Byte) (t : State) : Prop where
  patches : t.bus.patches = []
  stacked : Stacked t.bus.params t.bus.mem t.cpu.e top bytes t.cpu.s

/-- What is on the stack depends on `E`, `S` and the cells alone. -/
theorem OnStack.congr {top : Word} {bytes : List Byte} {t u : State} (h : OnStack top bytes t) (he : u.cpu.e = t.cpu.e)
    (hs : u.cpu.s = t.cpu.s) (hmem : u.bus.mem = t.bus.mem) (hparams : u.bus.params = t.bus.params)
    (hpatches : u.bus.patches = t.bus.patches) : OnStack top bytes u :=
  ⟨hpatches.trans h.patches, by rw [he, hs, hmem, hparams]; exact h.stacked⟩

/-- A pull gives the first byte on the stack and moves only `S`. -/
theorem OnStack.pull8 {top : Word} {v : Byte} {rest : List Byte} {t : State} (h : OnStack top (v :: rest) t) :
    ∃ sp, t.pull8 = (v, t.setS sp) ∧ OnStack top rest (t.setS sp) := by
  obtain ⟨hp, ⟨k, hk, rfl⟩, hrest⟩ := h
  refine ⟨stackPtr t.cpu.e (t.cpu.s + 1), ?_, hp, hrest⟩
  rw [State.pull8, Bus.read_cell hp hk]
  rfl

theorem OnStack.pull16 {top : Word} {lo hi : Byte} {rest : List Byte} {t : State} (h : OnStack top (lo :: hi :: rest) t) :
    ∃ sp, t.pull16 = (wordOf lo hi, t.setS sp) ∧ OnStack top rest (t.setS sp) := by
  obtain ⟨sp, hlo, h'⟩ := h.pull8
  obtain ⟨sp', hhi, h''⟩ := h'.pull8
  refine ⟨sp', ?_, h''⟩
  rw [State.pull16, hlo]
  simp only [hhi]
  rfl

theorem OnStack.top_eq {top : Word} {t : State} (h : OnStack top [] t) : t.cpu.s = top := h.stacked

/-! Pushing bytes. -/

/-- Bytes pushed one after the other. -/
def State.pushBytes (s : State) (bytes : List Byte) : State := bytes.foldl State.push8 s

theorem State.pushBytes_cons (s : State) (v : Byte) (rest : List Byte) :
    s.pushBytes (v :: rest) = (s.push8 v).pushBytes rest := rfl

/-- Pushes change no register but `S`. -/
theorem State.pushBytes_cpu (s : State) (bytes : List Byte) :
    (s.pushBytes bytes).cpu = { s.cpu with s := (s.pushBytes bytes).cpu.s } := by
  induction bytes generalizing s with
  | nil => rfl
  | cons v rest ih => exact ih (s.push8 v)

theorem State.pushBytes_e (s : State) (bytes : List Byte) : (s.pushBytes bytes).cpu.e = s.cpu.e := by
  rw [State.pushBytes_cpu]

theorem State.pushBytes_params (s : State) (bytes : List Byte) : (s.pushBytes bytes).bus.params = s.bus.params := by
  induction bytes generalizing s with
  | nil => rfl
  | cons v rest ih => exact (ih (s.push8 v)).trans (s.push8_only v).params

/-- The address a push writes, and those of the pushes after it (R33). -/
theorem pushAddrs_succ (e : Bool) (n : Nat) (sp : Word) :
    pushAddrs e (n + 1) sp = mkAddr 0x00 sp :: pushAddrs e n (stackPtr e (sp - 1)) := by
  rw [pushAddrs, below_eq_stackPtr, mkAddr_eq_byteAddr]
  rfl

/-- The cells of the addresses that `n` pushes write are `ks`, in order. -/
def PushCells (s : State) (n : Nat) (ks : List Nat) : Prop :=
  (pushAddrs s.cpu.e n s.cpu.s).map (ramCellOf s.bus.params) = ks.map some

/-- The first push has its cell, and the pushes after it have theirs. -/
theorem PushCells.cons {s : State} {n : Nat} {ks : List Nat} (h : PushCells s (n + 1) ks) (v : Byte) :
    ∃ k rest, ks = k :: rest ∧ ramCellOf s.bus.params (mkAddr 0x00 s.cpu.s) = some k ∧
      PushCells (s.push8 v) n rest := by
  rw [PushCells, pushAddrs_succ] at h
  cases ks with
  | nil => cases h
  | cons k rest =>
    obtain ⟨hk, hrest⟩ := List.cons.inj h
    refine ⟨k, rest, rfl, hk, ?_⟩
    rw [PushCells, (s.push8_only v).params]
    exact hrest

/-- Pushes leave every cell but theirs as it was. -/
theorem State.pushBytes_read {s : State} {bytes : List Byte} {ks : List Nat} {k : Nat} (h : PushCells s bytes.length ks)
    (hk : k ∉ ks) : (s.pushBytes bytes).bus.mem.read k = s.bus.mem.read k := by
  induction bytes generalizing s ks with
  | nil => rfl
  | cons v rest ih =>
    obtain ⟨j, js, rfl, hj, hjs⟩ := h.cons v
    obtain ⟨hkj, hkjs⟩ : k ≠ j ∧ k ∉ js := by simpa using hk
    rw [State.pushBytes_cons, ih hjs hkjs]
    exact Bus.write_read_of_ne v (not_gdma_of_ramCellOf hj) (by rw [hj]; simpa using Ne.symm hkj)

/-- What is pushed onto distinct plain cells is on the stack, last byte first. -/
theorem State.pushBytes_onStack {s : State} {bytes : List Byte} {ks : List Nat} (hpatches : s.bus.patches = [])
    (hwf : Memory.wf s.bus.mem) (hpage : s.cpu.e = true → hiByte s.cpu.s = 0x01) (hcells : PushCells s bytes.length ks)
    (hdistinct : ks.Nodup) : OnStack s.cpu.s bytes.reverse (s.pushBytes bytes) := by
  induction bytes generalizing s ks with
  | nil => exact ⟨hpatches, rfl⟩
  | cons v rest ih =>
    obtain ⟨k, js, rfl, hk, hjs⟩ := hcells.cons v
    obtain ⟨hkjs, hdistinct⟩ := List.nodup_cons.mp hdistinct
    have honly := s.push8_only v
    obtain ⟨hp, hst⟩ := ih (honly.patches.trans hpatches) (honly.wf hwf) (fun he => honly.page he) hjs hdistinct
    have htop : stackPtr s.cpu.e ((s.push8 v).cpu.s + 1) = s.cpu.s := stackPtr_after_push hpage
    have hread : ((s.push8 v).pushBytes rest).bus.mem.read k = v :=
      (State.pushBytes_read hjs hkjs).trans (Bus.write_read_self hwf v hk)
    rw [State.pushBytes_e, State.pushBytes_params, honly.params] at hst
    refine ⟨hp, ?_⟩
    rw [List.reverse_cons, State.pushBytes_cons, State.pushBytes_e, State.pushBytes_params, honly.params]
    exact hst.append htop (cellOf_of_ramCellOf hk) hread

/-! A call and its return. -/

/-- RTS goes to the address after the word on the stack (R255). -/
theorem rtsOp_of_onStack {top : Word} {lo hi : Byte} {t : State} (h : OnStack top [lo, hi] t) :
    rtsOp t = (t.setS top).setPC (wordOf lo hi + 1) := by
  obtain ⟨sp, hpull, h'⟩ := h.pull16
  obtain rfl : sp = top := h'.top_eq
  simp only [rtsOp, hpull]

/-- RTL goes to the address after the word on the stack, in the bank above it (R256). -/
theorem rtlOp_of_onStack {top : Word} {lo hi bank : Byte} {t : State} (h : OnStack top [lo, hi, bank] t) :
    rtlOp t = ((t.setS top).setPC (wordOf lo hi + 1)).setPB bank := by
  obtain ⟨sp, hpull, h'⟩ := h.pull16
  obtain ⟨sp', hpull', h''⟩ := h'.pull8
  obtain rfl : sp' = top := h''.top_eq
  simp only [rtlOp, hpull, hpull']
  rfl

theorem wordOf_loByte_hiByte (v : Word) : wordOf (loByte v) (hiByte v) = v := by
  apply BitVec.eq_of_toNat_eq
  rw [wordOf_toNat, loByte_toNat, hiByte_toNat]
  omega

/-- The statements' plain cells at `S` take what is pushed. -/
theorem State.pushBytes_onStack_of_plain {s : State} (hs : s.cpu.Inv) {bytes : List Byte}
    (hplain : PlainCells (pushAddrs s.cpu.e bytes.length s.cpu.s) s.bus) :
    OnStack s.cpu.s bytes.reverse (s.pushBytes bytes) := by
  obtain ⟨hpatches, hwf, ks, hcells, hdistinct⟩ := hplain
  exact State.pushBytes_onStack hpatches hwf hs.2 hcells hdistinct

theorem State.call_eq (s : State) (target : Word) :
    s.call target = (s.pushBytes [hiByte (s.cpu.pc - 1), loByte (s.cpu.pc - 1)]).setPC target := rfl

theorem State.callLong_eq (s : State) (target : Addr) :
    s.callLong target = (s.pushBytes [s.cpu.pb, hiByte (s.cpu.pc - 1), loByte (s.cpu.pc - 1)]).jumpLong target := rfl

/-- RTS right after a call in the bank brings every register back (R253, R255). -/
theorem rtsOp_call {s : State} (hs : s.cpu.Inv) (hplain : PlainCells (pushAddrs s.cpu.e 2 s.cpu.s) s.bus)
    (target : Word) : (rtsOp (s.call target)).cpu = s.cpu := by
  have hstack := State.pushBytes_onStack_of_plain hs (bytes := [hiByte (s.cpu.pc - 1), loByte (s.cpu.pc - 1)]) hplain
  have hcpu := s.pushBytes_cpu [hiByte (s.cpu.pc - 1), loByte (s.cpu.pc - 1)]
  rw [State.call_eq]
  generalize s.pushBytes _ = t at hstack hcpu ⊢
  rw [rtsOp_of_onStack (t := t.setPC target) (hstack.congr rfl rfl rfl rfl rfl), wordOf_loByte_hiByte,
    BitVec.sub_add_cancel]
  show { t.cpu with s := s.cpu.s, pc := s.cpu.pc } = s.cpu
  rw [hcpu]

/-- RTL right after a long call brings every register back (R254, R256). -/
theorem rtlOp_callLong {s : State} (hs : s.cpu.Inv) (hplain : PlainCells (pushAddrs s.cpu.e 3 s.cpu.s) s.bus)
    (target : Addr) : (rtlOp (s.callLong target)).cpu = s.cpu := by
  have hstack := State.pushBytes_onStack_of_plain hs
    (bytes := [s.cpu.pb, hiByte (s.cpu.pc - 1), loByte (s.cpu.pc - 1)]) hplain
  have hcpu := s.pushBytes_cpu [s.cpu.pb, hiByte (s.cpu.pc - 1), loByte (s.cpu.pc - 1)]
  rw [State.callLong_eq]
  generalize s.pushBytes _ = t at hstack hcpu ⊢
  rw [rtlOp_of_onStack (t := t.jumpLong target) (hstack.congr rfl rfl rfl rfl rfl), wordOf_loByte_hiByte,
    BitVec.sub_add_cancel]
  show { t.cpu with s := s.cpu.s, pc := s.cpu.pc, pb := s.cpu.pb } = s.cpu
  rw [hcpu]

theorem mkAddr_bankOf_offOf (a : Addr) : mkAddr (bankOf a) (offOf a) = a := by
  simpa [inBank] using inBank_zero a

/-- Settles O49: the pointer read of JSR `(abs,X)` leaves memory as it was, so its call is one from plain cells too. -/
theorem callThenReturn : Obligations.CallThenReturn := by
  intro s o l hs
  obtain ⟨hcpu, -⟩ := hs
  refine ⟨fun hplain => ⟨⟨_, _, rfl, rfl, rfl, rtsOp_call hcpu hplain o⟩, ⟨_, _, rfl, rfl, ?_⟩⟩,
    fun hplain => ⟨_, _, rfl, mkAddr_bankOf_offOf l, rfl, rtlOp_callLong hcpu hplain l⟩⟩
  obtain ⟨hpatches, hwf, hcells⟩ := hplain
  refine rtsOp_call (s := s.setBus (indXTarget o s.cpu s.bus).2) hcpu ⟨?_, ?_, ?_⟩ _
  · simpa [indXTarget] using hpatches
  · simpa [indXTarget] using hwf
  · simpa [indXTarget] using hcells

/-! The width discipline in numbers (R31). -/

theorem and_00FF_eq_ofNat (v : Word) : v &&& 0x00FF = BitVec.ofNat 16 (v.toNat % 256) := by
  apply BitVec.eq_of_toNat_eq
  have h : (v &&& 0x00FF).toNat = v.toNat % 2 ^ 8 := Width.mask_toNat .w8 v
  rw [h, BitVec.toNat_ofNat]
  omega

theorem stackPtr_eq_ofNat (e : Bool) (v : Word) :
    stackPtr e v = if e then BitVec.ofNat 16 (256 + v.toNat % 256) else v := by
  apply BitVec.eq_of_toNat_eq
  rw [stackPtr_toNat]
  cases e with
  | false => rfl
  | true =>
    simp only [if_true, BitVec.toNat_ofNat]
    omega

theorem State.widthDiscipline_cpu (s : State) : s.widthDiscipline.cpu = disciplined s.cpu := by
  rw [State.widthDiscipline_eq]
  simp only [disciplined, and_00FF_eq_ofNat, stackPtr_eq_ofNat, Cpu.m8_eq, Cpu.x8_eq]

/-- Where the register invariants hold, the width discipline cuts A alone. -/
theorem disciplined_of_inv {c : Cpu} (h : c.Inv) :
    disciplined c = { c with a := if c.e || bitOf c.p 5 then BitVec.ofNat 16 (c.a.toNat % 256) else c.a } := by
  obtain ⟨hxy, hpage⟩ := h
  have low {v : Word} (hv : c.x8 = true → hiByte v = 0x00) :
      (if c.e || bitOf c.p 4 then BitVec.ofNat 16 (v.toNat % 256) else v) = v := by
    split
    · rename_i h8
      have := toNat_lt_of_hiByte_zero (hv (c.x8_eq.trans h8))
      rw [Nat.mod_eq_of_lt (by omega), BitVec.ofNat_toNat, BitVec.setWidth_eq]
    · rfl
  rw [disciplined, low fun h8 => (hxy h8).1, low fun h8 => (hxy h8).2, ← stackPtr_eq_ofNat, stackPtr_of_page hpage]

/-! An interrupt and the return from it. -/

theorem pushWord_toNat (v : Word) : pushWord v.toNat = [hiByte v, loByte v] := by
  have hhi : byteOf v.toNat 1 = hiByte v :=
    BitVec.eq_of_toNat_eq (by rw [hiByte_toNat, byteOf, BitVec.toNat_ofNat]; omega)
  have hlo : byteOf v.toNat 0 = loByte v :=
    BitVec.eq_of_toNat_eq (by rw [loByte_toNat, byteOf, BitVec.toNat_ofNat]; omega)
  rw [pushWord, hhi, hlo]

theorem State.entryPushes_eq (s : State) (kind : IntKind) :
    s.entryPushes kind = s.pushBytes (entryBytes (statusImage kind s.cpu.e s.cpu.p) s.cpu) := by
  unfold State.entryPushes entryBytes
  rw [pushWord_toNat]
  split <;> rfl

theorem entryBytes_length (image : Byte) (c : Cpu) : (entryBytes image c).length = if c.e then 3 else 4 := by
  rw [entryBytes, pushWord_toNat]
  split <;> rfl

theorem entryBytes_reverse (image : Byte) (c : Cpu) :
    (entryBytes image c).reverse = image :: loByte c.pc :: hiByte c.pc :: if c.e then [] else [c.pb] := by
  rw [entryBytes, pushWord_toNat]
  split <;> rfl

/-- After interrupt entry the bytes that it pushed are on the stack (R356); the read of the vector leaves them there. -/
theorem State.interrupt_onStack {s : State} (hs : s.cpu.Inv) (hplain : PlainCells (entryAddrs s.cpu) s.bus)
    (kind : IntKind) :
    OnStack s.cpu.s (entryBytes (statusImage kind s.cpu.e s.cpu.p) s.cpu).reverse (s.interrupt kind) := by
  rw [entryAddrs, ← entryBytes_length (statusImage kind s.cpu.e s.cpu.p)] at hplain
  have h := State.pushBytes_onStack_of_plain hs hplain
  rw [← State.entryPushes_eq] at h
  rw [State.interrupt_eq]
  generalize s.entryPushes kind = t at h ⊢
  exact h.congr rfl rfl (Bus.read16_mem _ _) (Bus.read16_params _ _) (Bus.read16_patches _ _)

/-- Interrupt entry writes P, PC, PB and S, and an NMI its latch (R356). -/
theorem State.interrupt_cpu (s : State) (kind : IntKind) :
    (s.interrupt kind).cpu =
      { s.cpu with
        s := (s.interrupt kind).cpu.s
        p := (s.interrupt kind).cpu.p
        pc := (s.interrupt kind).cpu.pc
        pb := 0x00
        nmiReq := if kind = .nmi then false else s.cpu.nmiReq } := by
  rw [State.interrupt_eq]
  simp only
  rw [(s.entryPushes_only kind).cpu]

/-- The return pulls P, PC and in native mode PB, then runs the width discipline (R322). -/
theorem State.returnFromInterrupt_of_onStack {top : Word} {image lo hi bank : Byte} {t : State}
    (h : OnStack top (image :: lo :: hi :: if t.cpu.e then [] else [bank]) t) :
    t.returnFromInterrupt.cpu =
      disciplined { t.cpu with s := top, p := image, pc := wordOf lo hi, pb := if t.cpu.e then t.cpu.pb else bank } := by
  obtain ⟨sp, hp, h1⟩ := h.pull8
  obtain ⟨sp', hpc, h2⟩ := h1.pull16
  simp only [State.returnFromInterrupt, hp, hpc, State.widthDiscipline_cpu]
  split at h2
  case isTrue he =>
    obtain rfl : sp' = top := h2.top_eq
    rw [if_pos he, if_pos he]
    rfl
  case isFalse he =>
    obtain ⟨sp'', hpb, h3⟩ :=
      (h2.congr (u := (((t.setS sp).setS sp').setP image).setPC (wordOf lo hi)) rfl rfl rfl rfl rfl).pull8
    obtain rfl : sp'' = top := h3.top_eq
    rw [if_neg he, if_neg he]
    simp only [hpb]
    rfl

/-- The width of the index registers is the same under the status image as before the entry (R357). -/
theorem statusImage_x (kind : IntKind) (e : Bool) (p : Byte) :
    (e || flagGet (statusImage kind e p) .x) = (e || flagGet p .x) := by
  cases e <;> cases kind <;> rfl

/-- The CPU that RTI resumes after an entry with a status image: the one before, with P the image, PB as pulled in
native mode and `$00` in emulation mode, A cut by the width discipline. -/
def resumed (image : Byte) (c : Cpu) : Cpu :=
  { c with
    p := image
    pb := if c.e then 0x00 else c.pb
    a := if c.e || bitOf image 5 then BitVec.ofNat 16 (c.a.toNat % 256) else c.a }

/-- RTI after interrupt entry, and perhaps a cost charged, resumes what was interrupted (R361). -/
theorem State.returnFromInterrupt_of_interrupt {s t : State} (hs : s.cpu.Inv)
    (hplain : PlainCells (entryAddrs s.cpu) s.bus) {kind : IntKind}
    (hcpu : t.cpu = { (s.interrupt kind).cpu with budget := t.cpu.budget })
    (hbus : t.bus = (s.interrupt kind).bus) :
    t.returnFromInterrupt.cpu =
      { resumed (statusImage kind s.cpu.e s.cpu.p) s.cpu with
        nmiReq := if kind = .nmi then false else s.cpu.nmiReq
        budget := t.cpu.budget } := by
  have hstack := (State.interrupt_onStack hs hplain kind).congr (u := t) (by rw [hcpu]) (by rw [hcpu]) (by rw [hbus])
    (by rw [hbus]) (by rw [hbus])
  have hx := statusImage_x kind s.cpu.e s.cpu.p
  generalize statusImage kind s.cpu.e s.cpu.p = image at hstack hx ⊢
  rw [State.interrupt_cpu] at hcpu
  have he : t.cpu.e = s.cpu.e := by rw [hcpu]
  rw [entryBytes_reverse, ← he] at hstack
  rw [State.returnFromInterrupt_of_onStack hstack, wordOf_loByte_hiByte, disciplined_of_inv, hcpu]
  · rfl
  · rw [hcpu]
    exact ⟨fun h8 => hs.1 (hx.symm.trans h8), hs.2⟩

theorem statusImage_eq_softImage {kind : IntKind} (hk : kind = .brk ∨ kind = .cop) (c : Cpu) :
    statusImage kind c.e c.p = softImage c := by
  have himage : c.p ||| 0x10 = BitVec.ofNat 8 (c.p.toNat ||| 0x10) := by simp
  unfold softImage
  cases c.e with
  | false => obtain rfl | rfl := hk <;> rfl
  | true => obtain rfl | rfl := hk <;> exact himage

theorem statusImage_eq_hardImage {kind : IntKind} (hk : kind = .nmi ∨ kind = .irq) (c : Cpu) :
    statusImage kind c.e c.p = hardImage c := by
  have himage : c.p &&& 0xEF = BitVec.ofNat 8 (c.p.toNat &&& 0xEF) := by simp
  unfold hardImage
  cases c.e with
  | false => obtain rfl | rfl := hk <;> rfl
  | true => obtain rfl | rfl := hk <;> exact himage

/-- RTI right after BRK or COP (R320, R321). -/
theorem State.returnFromInterrupt_of_softwareEntry {s : State} (hs : s.cpu.Inv)
    (hplain : PlainCells (entryAddrs s.cpu) s.bus) {kind : IntKind} (hk : kind = .brk ∨ kind = .cop) :
    (s.interrupt kind).returnFromInterrupt.cpu = resumed (softImage s.cpu) s.cpu := by
  have hbudget : (s.interrupt kind).cpu.budget = s.cpu.budget := by rw [State.interrupt_cpu]
  rw [State.returnFromInterrupt_of_interrupt (t := s.interrupt kind) hs hplain rfl rfl,
    statusImage_eq_softImage hk, hbudget, if_neg (by obtain rfl | rfl := hk <;> decide)]
  rfl

/-- RTI right after an NMI or an IRQ was taken (R353). -/
theorem State.returnFromInterrupt_of_takeInterrupt {s : State} (hs : s.cpu.Inv)
    (hplain : PlainCells (entryAddrs s.cpu) s.bus) {kind : IntKind} (hk : kind = .nmi ∨ kind = .irq) :
    (s.takeInterrupt kind).charge.returnFromInterrupt.cpu =
      { resumed (hardImage s.cpu) s.cpu with
        run := .running
        nmiReq := if kind = .nmi then false else s.cpu.nmiReq
        budget := (s.takeInterrupt kind).charge.cpu.budget } := by
  have h := State.returnFromInterrupt_of_interrupt (s := s.setRun .running) (t := (s.takeInterrupt kind).charge)
    (kind := kind) hs hplain (by rw [State.charge_cpu, State.takeInterrupt]) (by rw [State.charge_bus, State.takeInterrupt])
  rw [h, ← statusImage_eq_hardImage hk]
  rfl

theorem boundaryStep_nmi {s : State} (hreset : s.resetReq = none) (hrun : s.cpu.run ≠ .stopped)
    (hnmi : s.cpu.nmiReq = true) : boundaryStep s = .next (s.takeInterrupt .nmi).charge := by
  simp [boundaryStep, State.move, hreset, hrun, hnmi]

theorem boundaryStep_irq {s : State} (hreset : s.resetReq = none) (hrun : s.cpu.run ≠ .stopped)
    (hnmi : s.cpu.nmiReq = false) (hirq : s.irqLine = true) (hi : flagGet s.cpu.p .i = false) :
    boundaryStep s = .next (s.takeInterrupt .irq).charge := by
  simp [boundaryStep, State.move, hreset, hrun, hnmi, hirq, hi]

/-- Settles O58: RTI pulls what the entry pushed, whether an instruction or the boundary entered. -/
theorem interruptThenRtiResumes : Obligations.InterruptThenRtiResumes := by
  intro s hs hplain
  obtain ⟨hcpu, -⟩ := hs
  refine ⟨fun sig => ⟨_, _, rfl, rfl, ?_⟩, fun sig => ⟨_, _, rfl, rfl, ?_⟩, fun hquiet hreset hrun hnmi => ?_,
    fun hquiet hreset hrun hnmi hirq hi => ?_⟩
  · exact State.returnFromInterrupt_of_softwareEntry hcpu hplain (.inl rfl)
  · exact State.returnFromInterrupt_of_softwareEntry hcpu hplain (.inr rfl)
  · exact ⟨_, _, (step_of_quiet hquiet).trans (boundaryStep_nmi (s := polled s) hreset hrun hnmi), rfl,
      State.returnFromInterrupt_of_takeInterrupt (s := polled s) hcpu hplain (.inl rfl)⟩
  · have hclear : flagGet s.cpu.p .i = false := (flagGet_eq_bitOf _ _).trans hi
    exact ⟨_, _, (step_of_quiet hquiet).trans (boundaryStep_irq (s := polled s) hreset hrun hnmi hirq hclear), rfl,
      State.returnFromInterrupt_of_takeInterrupt (s := polled s) hcpu hplain (.inr rfl)⟩

end Sys2Proof.Machine
end

section
/-! PROOFS. Multi-byte accesses as single accesses inside one bank (R61 to R63) and the effective addresses of the memory
modes (R101 to R115): settles O18 and O27. -/

namespace Sys2Proof.Machine

open Sys2Proof.Claims

/-! Addresses in a bank. -/

/-- The address `i` bytes further on in the bank of `a` (R61). -/
theorem inBank_eq_byteAddr (a : Addr) (i : Nat) : inBank a i = byteAddr (a.toNat / 65536) (a.toNat % 65536 + i) := by
  have hsplit := inBank_mkAddr (bankOf a) (offOf a) i
  have ha := mkAddr_toNat (bankOf a) (offOf a)
  rw [mkAddr_bankOf_offOf] at hsplit ha
  have hoff := (offOf a).isLt
  rw [hsplit, show (bankOf a).toNat = a.toNat / 65536 by omega, show (offOf a).toNat = a.toNat % 65536 by omega]

/-- An address is the first byte of its own bank and offset. -/
theorem byteAddr_self (a : Addr) : byteAddr (a.toNat / 65536) (a.toNat % 65536) = a := by
  rw [← Nat.add_zero (a.toNat % 65536), ← inBank_eq_byteAddr, inBank_zero]

theorem mkAddr_add (bank : Byte) (off index : Word) :
    mkAddr bank (off + index) = byteAddr bank.toNat (off.toNat + index.toNat) := by
  rw [mkAddr_eq_byteAddr, BitVec.toNat_add, byteAddr_mod]

/-- Reads in a bank depend on the offset modulo 2^16 alone (R61). -/
theorem readSeq_congr {n bank off off' : Nat} (h : off % 65536 = off' % 65536) (b : Bus) :
    readSeq n bank off b = readSeq n bank off' b := by
  induction n generalizing off off' b with
  | zero => rfl
  | succ n ih =>
    have haddr : byteAddr bank off = byteAddr bank off' := by rw [← byteAddr_mod, h, byteAddr_mod]
    simp only [readSeq, haddr, ih (off := off + 1) (off' := off' + 1) (by omega)]

theorem leRead_mod (n bank off : Nat) (b : Bus) : leRead n bank (off % 65536) b = leRead n bank off b := by
  simp only [leRead, readSeq_congr (Nat.mod_mod off 65536)]

/-! Multi-byte accesses. -/

theorem setWidth_eq_ofNat_leNat (v : Byte) : v.setWidth 16 = BitVec.ofNat 16 (leNat [v]) := by
  simp [leNat, BitVec.ofNat_toNat]

theorem addrOf_eq_ofNat_leNat (lo mid bank : Byte) : addrOf lo mid bank = BitVec.ofNat 24 (leNat [lo, mid, bank]) := by
  apply BitVec.eq_of_toNat_eq
  have hlo := lo.isLt
  have hmid := mid.isLt
  have hbank := bank.isLt
  rw [addrOf_toNat, BitVec.toNat_ofNat]
  simp only [leNat]
  omega

theorem byteOf_zero_eq_loByte (v : Word) : byteOf v.toNat 0 = loByte v :=
  BitVec.eq_of_toNat_eq (by rw [loByte_toNat, byteOf, BitVec.toNat_ofNat]; omega)

theorem byteOf_one_eq_hiByte (v : Word) : byteOf v.toNat 1 = hiByte v :=
  BitVec.eq_of_toNat_eq (by rw [hiByte_toNat, byteOf, BitVec.toNat_ofNat]; omega)

theorem Bus.read16_eq_leRead (b : Bus) (a : Addr) :
    b.read16 a =
      (BitVec.ofNat 16 (leRead 2 (a.toNat / 65536) (a.toNat % 65536) b).1,
        (leRead 2 (a.toNat / 65536) (a.toNat % 65536) b).2) := by
  simp only [Bus.read16, inBank_eq_byteAddr, wordOf_eq_ofNat_leNat]
  rfl

theorem Bus.read24_eq_leRead (b : Bus) (a : Addr) :
    b.read24 a =
      (BitVec.ofNat 24 (leRead 3 (a.toNat / 65536) (a.toNat % 65536) b).1,
        (leRead 3 (a.toNat / 65536) (a.toNat % 65536) b).2) := by
  simp only [Bus.read24, inBank_eq_byteAddr, addrOf_eq_ofNat_leNat]
  rfl

theorem Bus.readW_eq_leRead (b : Bus) (w : Width) (a : Addr) :
    b.readW w a =
      (BitVec.ofNat 16 (leRead (bytesOf w) (a.toNat / 65536) (a.toNat % 65536) b).1,
        (leRead (bytesOf w) (a.toNat / 65536) (a.toNat % 65536) b).2) := by
  cases w with
  | w8 => simp only [Bus.readW, setWidth_eq_ofNat_leNat, bytesOf, leRead, readSeq, byteAddr_self]
  | w16 => exact b.read16_eq_leRead a

theorem Bus.write16_eq_leWrite (b : Bus) (a : Addr) (v : Word) :
    b.write16 a v = leWrite 2 (a.toNat / 65536) (a.toNat % 65536) v.toNat b := by
  have hhi : byteOf (v.toNat / 256) 0 = hiByte v := by rw [← byteOf_one_eq_hiByte]; simp [byteOf]
  simp only [Bus.write16, inBank_eq_byteAddr, leWrite, byteOf_zero_eq_loByte, hhi, Nat.add_zero]

theorem Bus.writeW_eq_leWrite (b : Bus) (w : Width) (a : Addr) (v : Word) :
    b.writeW w a v = leWrite (bytesOf w) (a.toNat / 65536) (a.toNat % 65536) v.toNat b := by
  cases w with
  | w8 => simp only [Bus.writeW, bytesOf, leWrite, byteAddr_self, byteOf_zero_eq_loByte]
  | w16 => exact b.write16_eq_leWrite a v

/-- Settles O18: every byte of an access has its address in the bank of the first. -/
theorem multiByteAccessStaysInBank : Obligations.MultiByteAccessStaysInBank := fun b a w v =>
  ⟨b.readW_eq_leRead w a, b.read16_eq_leRead a, b.read24_eq_leRead a, b.writeW_eq_leWrite w a v⟩

/-! Effective addresses. -/

theorem mkAddr_eq_ofNat (bank : Byte) (off : Word) : mkAddr bank off = BitVec.ofNat 24 (bank.toNat * 65536 + off.toNat) := by
  rw [← mkAddr_toNat, BitVec.ofNat_toNat, BitVec.setWidth_eq]

/-- An index is added in the 24-bit space (R69). -/
theorem addIndex_ofNat (n : Nat) (index : Word) :
    addIndex (BitVec.ofNat 24 n) index = BitVec.ofNat 24 (n + index.toNat) := by
  rw [addIndex, BitVec.ofNat_add, BitVec.ofNat_toNat]

theorem addIndex_eq_ofNat (a : Addr) (index : Word) : addIndex a index = BitVec.ofNat 24 (a.toNat + index.toNat) := by
  rw [← addIndex_ofNat, BitVec.ofNat_toNat, BitVec.setWidth_eq]

/-- A direct page address wraps inside bank `$00`, in both modes (R106 to R108). -/
theorem dpAddr_eq_byteAddr (c : Cpu) (d : Byte) (index : Word) :
    dpAddr c d index = byteAddr 0 (c.d.toNat + d.toNat + index.toNat) := by
  have hd : (d.setWidth 16).toNat = d.toNat := BitVec.toNat_setWidth_of_le (by decide)
  rw [dpAddr, BitVec.add_assoc, mkAddr_add, BitVec.toNat_add, ← byteAddr_mod, Nat.add_mod_mod, byteAddr_mod, hd, Nat.add_assoc]
  rfl

/-- A stack relative address wraps inside bank `$00` (R114). -/
theorem srAddr_eq_byteAddr (c : Cpu) (d : Byte) : srAddr c d = byteAddr 0 (c.s.toNat + d.toNat) := by
  rw [srAddr, mkAddr_add, BitVec.toNat_setWidth_of_le (by decide)]
  rfl

theorem byteAddr_zero_toNat (off : Nat) : (byteAddr 0 off).toNat = off % 65536 := by
  rw [byteAddr, BitVec.toNat_ofNat]
  omega

/-- A two-byte pointer in bank `$00` (R109 to R113). -/
theorem Bus.read16_bankZero (b : Bus) (off : Nat) :
    b.read16 (byteAddr 0 off) = (BitVec.ofNat 16 (leRead 2 0 off b).1, (leRead 2 0 off b).2) := by
  rw [Bus.read16_eq_leRead, byteAddr_zero_toNat, Nat.mod_mod, leRead_mod, Nat.div_eq_of_lt (Nat.mod_lt _ (by decide))]

/-- A three-byte pointer in bank `$00` (R110, R113). -/
theorem Bus.read24_bankZero (b : Bus) (off : Nat) :
    b.read24 (byteAddr 0 off) = (BitVec.ofNat 24 (leRead 3 0 off b).1, (leRead 3 0 off b).2) := by
  rw [Bus.read24_eq_leRead, byteAddr_zero_toNat, Nat.mod_mod, leRead_mod, Nat.div_eq_of_lt (Nat.mod_lt _ (by decide))]

/-- The address that a pointer gives in the data bank (R109). -/
theorem mkAddr_pointer (bank : Byte) (off : Nat) (b : Bus) :
    mkAddr bank (BitVec.ofNat 16 (leRead 2 0 off b).1) = BitVec.ofNat 24 (bank.toNat * 65536 + (leRead 2 0 off b).1) := by
  rw [mkAddr_eq_ofNat, BitVec.toNat_ofNat, Nat.mod_eq_of_lt (leRead_lt_word 0 off b)]

/-- Settles O27: each mode's address as a number, its pointer read first where it has one. -/
theorem effectiveAddresses : Obligations.EffectiveAddresses := by
  intro c b o l d p2 p3 px ps
  have hdp : dpAddr c d 0 = byteAddr 0 (c.d.toNat + d.toNat) := dpAddr_eq_byteAddr c d 0
  refine ⟨?abs, ?absX, ?absY, rfl, ?longX, ?dp, ?dpX, ?dpY, ?sr, ?dpInd, ?dpIndLong, ?dpIndY, ?dpIndLongY, ?dpXInd, ?srIndY⟩
  case abs => simp only [MemMode.ea, mkAddr_eq_ofNat]
  case absX => simp only [MemMode.ea, mkAddr_eq_ofNat, addIndex_ofNat]
  case absY => simp only [MemMode.ea, mkAddr_eq_ofNat, addIndex_ofNat]
  case longX => simp only [MemMode.ea, addIndex_eq_ofNat]
  case dp => simp only [MemMode.ea, hdp]
  case dpX => simp only [MemMode.ea, dpAddr_eq_byteAddr]
  case dpY => simp only [MemMode.ea, dpAddr_eq_byteAddr]
  case sr => simp only [MemMode.ea, srAddr_eq_byteAddr]
  case dpInd => simp only [MemMode.ea, hdp, Bus.read16_bankZero, mkAddr_pointer, p2]
  case dpIndLong => simp only [MemMode.ea, hdp, Bus.read24_bankZero, p3]
  case dpIndY => simp only [MemMode.ea, hdp, Bus.read16_bankZero, mkAddr_pointer, addIndex_ofNat, p2]
  case dpIndLongY => simp only [MemMode.ea, hdp, Bus.read24_bankZero, addIndex_ofNat, p3]
  case dpXInd => simp only [MemMode.ea, dpAddr_eq_byteAddr, Bus.read16_bankZero, mkAddr_pointer, px]
  case srIndY => simp only [MemMode.ea, srAddr_eq_byteAddr, Bus.read16_bankZero, mkAddr_pointer, addIndex_ofNat, ps]

end Sys2Proof.Machine
end

section
/-! PROOFS. Writes that have no effect and reads of unmapped space (R74), the cheat hook and the controller port (R78):
settles O22, O25 and O26. -/

namespace Sys2Proof.Machine

open Sys2Proof.Claims

/-! ROM and unmapped addresses. -/

/-- Settles O22: ROM and open bus take no write, and open bus answers a free byte. -/
theorem romAndOpenBusAccess : Obligations.RomAndOpenBusAccess := by
  intro b a v
  refine ⟨?_, fun ht hp => Bus.read_of_no_patches hp ht⟩
  rintro (⟨k, ht⟩ | ht)
  · exact Bus.write_eq_writeTarget v ht nofun
  · exact Bus.write_eq_writeTarget v ht nofun

/-! The controller port. -/

/-- The data bit of the port is the top bit of the latched word (R78, log 15). -/
theorem Bus.readController_bit (b : Bus) (a : Addr) : bitOf (b.readController a).1 0 = b.padShift.getMsbD 0 := by
  rw [bitOf_eq_getLsbD]
  refine (b.drawAround_getLsbD a (keep := 0x01) _ rfl).trans ?_
  rw [BitVec.msb]
  cases b.padShift.getMsbD 0 <;> rfl

/-- A read of the port shifts the latched word unless the strobe is high, and the units are told (R78). -/
theorem Bus.readController_bus (b : Bus) (a : Addr) :
    (b.readController a).2 =
      { b.tell (.read a) with padShift := if b.padStrobe then b.padShift else b.padShift <<< 1 } := by
  unfold Bus.readController
  cases b.padStrobe <;> rfl

section Port

variable {b : Bus} {a : Addr} (hp : b.patches = []) (ht : decodeAddr b.params a = .controller1)

include hp ht

theorem Bus.read_controller_bit : bitOf (b.read a).1 0 = b.padShift.getMsbD 0 := by
  rw [Bus.read_of_no_patches hp ht]
  exact b.readController_bit a

theorem Bus.read_controller_strobe : (b.read a).2.padStrobe = b.padStrobe := by
  rw [Bus.read_of_no_patches hp ht, Bus.readTarget, b.readController_bus]
  rfl

theorem Bus.read_controller_shift :
    (b.read a).2.padShift = if b.padStrobe then b.padShift else b.padShift <<< 1 := by
  rw [Bus.read_of_no_patches hp ht, Bus.readTarget, b.readController_bus]

/-- Reads of the port while the strobe is low give the latched word from the top (R78). -/
theorem rereads_shift (n : Nat) (hlow : b.padStrobe = false) :
    ((rereads n a b).1.map fun v => bitOf v 0) = (List.range n).map b.padShift.getMsbD := by
  induction n generalizing b with
  | zero => rfl
  | succ n ih =>
    have hshift : (b.read a).2.padShift = b.padShift <<< 1 := by simp [Bus.read_controller_shift hp ht, hlow]
    have hrest := ih (b := (b.read a).2) (by simpa using hp) (by simpa using ht)
      ((Bus.read_controller_strobe hp ht).trans hlow)
    rw [rereads, List.map_cons, Bus.read_controller_bit hp ht, hrest, hshift, List.range_succ_eq_map, List.map_cons,
      List.map_map]
    congr 1
    refine List.map_congr_left fun j _ => ?_
    simp [BitVec.getMsbD_shiftLeft]

/-- Every read of the port while the strobe is high gives the top bit (R78). -/
theorem rereads_held (n : Nat) (hhigh : b.padStrobe = true) :
    ∀ v ∈ (rereads n a b).1, bitOf v 0 = b.padShift.getMsbD 0 := by
  induction n generalizing b with
  | zero => nofun
  | succ n ih =>
    have hshift : (b.read a).2.padShift = b.padShift := by simp [Bus.read_controller_shift hp ht, hhigh]
    have hrest := ih (b := (b.read a).2) (by simpa using hp) (by simpa using ht)
      ((Bus.read_controller_strobe hp ht).trans hhigh)
    rw [hshift] at hrest
    exact List.forall_mem_cons.mpr ⟨Bus.read_controller_bit hp ht, hrest⟩

end Port

/-- A write of the port sets the strobe from bit 0 and latches on its falling edge (R78, log 15). -/
theorem Bus.write_controller {b : Bus} {a : Addr} (ht : decodeAddr b.params a = .controller1) (v : Byte) :
    b.write a v = (b.tell (.write a v)).writeController v :=
  Bus.write_eq_writeTarget v ht nofun

/-- Settles O25: the strobe's fall latches the live word, and its rise leaves the latched one. -/
theorem controllerShiftsOut : Obligations.ControllerShiftsOut := by
  intro b a hp ht
  have hup : b.write a 0x01 = _ := Bus.write_controller ht 0x01
  have hfall : (b.write a 0x01).write a 0x00 = _ := Bus.write_controller (by simpa using ht) 0x00
  refine ⟨?_, fun n => ?_⟩
  · rw [rereads_shift (by simpa using hp) (by simpa using ht) 16 (by rw [hfall]; rfl)]
    refine List.map_congr_left fun j hj => ?_
    have hlatched : ((b.write a 0x01).write a 0x00).padShift = b.padLive := by rw [hfall, hup]; rfl
    rw [hlatched, BitVec.getMsbD, decide_eq_true (List.mem_range.mp hj), Bool.true_and]
  · have hheld : (b.write a 0x01).padShift = b.padShift := by
      rw [hup]
      show (if b.padStrobe && false then b.padLive else b.padShift) = b.padShift
      simp
    rw [← hheld]
    exact rereads_held (by simpa using hp) (by simpa using ht) n (by rw [hup]; rfl)

/-! The cheat hook. -/

/-- The patch is for the address and fits the byte there (R78). -/
def Patch.fits (p : Patch) (a : Addr) (v : Byte) : Prop := p.addr = a ∧ (p.compare = none ∨ p.compare = some v)

/-- The first patch gives the byte if it fits (log 17). -/
theorem patched_of_fits {p : Patch} {a : Addr} {v : Byte} (h : p.fits a v) (rest : List Patch) :
    patched (p :: rest) a v = p.value := by
  obtain ⟨ha, hc⟩ := h
  simp [patched, ha, hc]

/-- A patch that does not fit leaves the byte to those after it. -/
theorem patched_of_not_fits {p : Patch} {a : Addr} {v : Byte} (h : ¬p.fits a v) (rest : List Patch) :
    patched (p :: rest) a v = patched rest a v := by
  have hp : (p.addr == a && (p.compare == none || p.compare == some v)) = false := by
    simpa [Patch.fits, ← Option.ne_none_iff_isSome] using h
  simp only [patched, List.find?_cons, hp]

/-- What a target answers, and the Bus after it, do not depend on the patch table. -/
theorem Bus.readTarget_withPatches (b : Bus) (ps : List Patch) (a : Addr) (t : Target) :
    { b with patches := ps }.readTarget a t = ((b.readTarget a t).1, { (b.readTarget a t).2 with patches := ps }) := by
  cases t with
  | controller1 =>
    refine Prod.ext rfl ?_
    simp only [Bus.readTarget, Bus.readController_bus]
    rfl
  | cpuReg off =>
    simp only [Bus.readTarget, Bus.readReg]
    repeat' split
    all_goals rfl
  | _ => rfl

/-- A read is one with an empty patch table, whose byte is then put through the table (R78). -/
theorem Bus.read_eq_patched (b : Bus) (a : Addr) :
    b.read a =
      (patched b.patches a ({ b with patches := [] }.read a).1,
        { ({ b with patches := [] }.read a).2 with patches := b.patches }) := by
  have hraw := b.readTarget_withPatches [] a (decodeAddr b.params a)
  have hown := b.readTarget_withPatches b.patches a (decodeAddr b.params a)
  simp only [Bus.read, hraw]
  have hbus := congrArg Prod.snd hown
  exact Prod.ext rfl hbus

/-- Settles O26: the patch table chooses the byte and nothing else. -/
theorem cheatHookSubstitutes : Obligations.CheatHookSubstitutes := by
  intro b a p rest hpatches raw
  have hbyte : (b.read a).1 = patched (p :: rest) a raw.1 := by rw [b.read_eq_patched, hpatches]
  have hrest : ({ b with patches := rest }.read a).1 = patched rest a raw.1 := by rw [Bus.read_eq_patched]
  refine ⟨congrArg Prod.snd (b.read_eq_patched a), fun ha hc => ?_, fun hmiss => ?_⟩
  · exact hbyte.trans (patched_of_fits ⟨ha, hc⟩ rest)
  · rw [hbyte, hrest]
    refine patched_of_not_fits (fun ⟨ha, hc⟩ => ?_) rest
    rcases hmiss with ha' | ⟨hn, hs⟩
    · exact ha' ha
    · exact hc.elim hn hs

end Sys2Proof.Machine
end

section
/-! PROOFS. A word stored to plain cells and read back (R65, R75, R79), and the cartridge's areas under each mapping
(R72, R73): settles O19 and O21. -/

namespace Sys2Proof.Machine

open Sys2Proof.Claims

/-! Stores to plain cells. -/

/-- A word written to two cells of RAM writes those and nothing else, low byte first (R63). -/
theorem Bus.write16_ram {b : Bus} {a : Addr} {j k : Nat} (v : Word) (hj : ramCellOf b.params (inBank a 0) = some j)
    (hk : ramCellOf b.params (inBank a 1) = some k) :
    b.write16 a v = { b with mem := (b.mem.write j (loByte v)).write k (hiByte v) } := by
  rw [Bus.write16, Bus.write_ram (loByte v) hj]
  exact Bus.write_ram (hiByte v) hk

/-- The addresses of a two-byte access (R61). -/
theorem accessed_two (a : Addr) : accessed 2 a = [inBank a 0, inBank a 1] := by
  simp only [inBank_eq_byteAddr]
  rfl

/-- The two plain cells of a two-byte access. -/
theorem plainCells_two {a : Addr} {b : Bus} (h : PlainCells (accessed 2 a) b) :
    ∃ j k, ramCellOf b.params (inBank a 0) = some j ∧ ramCellOf b.params (inBank a 1) = some k ∧ j ≠ k := by
  obtain ⟨-, -, ks, hcells, hdistinct⟩ := h
  rw [accessed_two] at hcells
  obtain ⟨j, _, rfl, hj, hcells⟩ := List.map_eq_cons_iff.mp hcells.symm
  obtain ⟨k, _, rfl, hk, -⟩ := List.map_eq_cons_iff.mp hcells
  exact ⟨j, k, hj.symm, hk.symm, fun hjk => (List.nodup_cons.mp hdistinct).1 (hjk ▸ List.mem_cons_self)⟩

/-- Settles O19: the high byte's cell is another than the low byte's, so the second write keeps the first. -/
theorem storeThenLoadBytes : Obligations.StoreThenLoadBytes := by
  intro b a v hplain b'
  obtain ⟨j, k, hj, hk, hjk⟩ := plainCells_two hplain
  obtain ⟨hp, hwf, -⟩ := hplain
  have hwf' : Memory.wf (b.mem.write j (loByte v)) := Memory.wf_write hwf (cellOf_lt (cellOf_of_ramCellOf hj)) _
  have hb' : b' = { b with mem := (b.mem.write j (loByte v)).write k (hiByte v) } := Bus.write16_ram v hj hk
  have hread {a' : Addr} {i : Nat} (hi : cellOf b.params a' = some i) :
      b'.read a' = (((b.mem.write j (loByte v)).write k (hiByte v)).read i, b') := by
    rw [hb']; exact Bus.read_cell hp hi
  have hlo : b'.read (inBank a 0) = (loByte v, b') := by
    rw [hread (cellOf_of_ramCellOf hj), Memory.read_write_of_ne _ _ hjk, Memory.read_write_self hwf]
  have hhi : b'.read (inBank a 1) = (hiByte v, b') := by
    rw [hread (cellOf_of_ramCellOf hk), Memory.read_write_self hwf']
  refine ⟨?_, ?_, ?_, ?_, fun a' i hi hother => ?_⟩
  · rw [byteOf_zero_eq_loByte, ← inBank_zero a, hlo]
  · rw [byteOf_one_eq_hiByte, ← inBank_eq_byteAddr, hhi]
  · rw [Bus.read16, hlo]
    simp only [hhi, wordOf_loByte_hiByte]
  · rw [hb']
    exact Memory.wf_write hwf' (cellOf_lt (cellOf_of_ramCellOf hk)) _
  · rw [accessed_two] at hother
    simp only [List.forall_mem_cons, hj, hk, ne_eq, Option.some.injEq] at hother
    obtain ⟨hji, hki, -⟩ := hother
    rw [hread hi, Bus.read_cell hp hi, Memory.read_write_of_ne _ _ (Ne.symm hki), Memory.read_write_of_ne _ _ (Ne.symm hji)]

/-! The homes of cartridge bytes: two places in range have one home only if they are one. -/

theorem loRomHome_injective : Function.Injective loRomHome := by
  intro i j h
  unfold loRomHome at h
  split at h <;> split at h <;> omega

theorem loRomSramHome_injective : Function.Injective loRomSramHome := by
  intro i j h
  unfold loRomSramHome at h
  split at h <;> split at h <;> omega

theorem hiRomSramHome_injective : Function.Injective hiRomSramHome := by
  intro i j h
  unfold hiRomSramHome at h
  omega

theorem hiRomHome_injOn : Set.InjOn hiRomHome {i | i < 0x800000} := by
  intro i hi j hj h
  simp only [Set.mem_ofPred_eq] at hi hj
  unfold hiRomHome at h
  repeat' split at h
  all_goals omega

/-! The places of an area. -/

/-- The address is answered by place `i` of an area: a cell of kind `t`, the places taken modulo `len` and all below `bound`. -/
structure AtPlace (c : BusParams) (a : Addr) (t : Nat → Target) (home : Nat → Nat) (len bound i : Nat) : Prop where
  cell : decodeAddr c a = t (home (i % len))
  lt : i < bound

/-- Two addresses of an area name one cell exactly when their places agree modulo the length. -/
theorem AtPlace.area {c : BusParams} {a a' : Addr} {t : Nat → Target} {home : Nat → Nat} {len bound i i' : Nat}
    (h : AtPlace c a t home len bound i) (h' : AtPlace c a' t home len bound i') (ht : Function.Injective t)
    (hhome : Set.InjOn home {j | j < bound}) :
    (∃ k, decodeAddr c a = t k) ∧ (decodeAddr c a = decodeAddr c a' ↔ i % len = i' % len) := by
  refine ⟨⟨_, h.cell⟩, ?_⟩
  rw [h.cell, h'.cell, ht.eq_iff]
  exact hhome.eq_iff (Nat.lt_of_le_of_lt (Nat.mod_le i len) h.lt) (Nat.lt_of_le_of_lt (Nat.mod_le i' len) h'.lt)

/-! The cartridge's targets in each area (R72). -/

section Targets

variable {c : BusParams} {bank off : Nat}

theorem loRomTarget_rom (hlen : c.romLen ≠ 0) (hoff : 0x8000 ≤ off) :
    loRomTarget c bank off = .rom (loRomHome (loRomIndex bank off % c.romLen)) := by
  rw [loRomTarget, if_pos hoff, romTarget, if_neg hlen]

theorem loRomTarget_sram (hlen : c.sramLen ≠ 0) (hbank : 0x70 ≤ bank ∧ bank ≤ 0x7D ∨ 0xFE ≤ bank)
    (hoff : off ≤ 0x7FFF) :
    loRomTarget c bank off = .sram (loRomSramHome (((bank % 0x80 - 0x70) * 0x8000 + off) % c.sramLen)) := by
  rw [loRomTarget, if_neg (by omega), if_pos hbank, sramTarget, if_neg hlen]

theorem hiRomTarget_rom (index : Nat → Nat → Nat) (hlen : c.romLen ≠ 0) (h : 0x40 ≤ bank % 0x80 ∨ 0x8000 ≤ off) :
    hiRomTarget index c bank off = .rom (hiRomHome (index bank off % c.romLen)) := by
  simp only [hiRomTarget, romTarget, if_neg hlen]
  rcases h with h | h
  · rw [if_pos h]
  · rw [if_pos h, ite_self]

theorem hiRomTarget_sram (index : Nat → Nat → Nat) (hlen : c.sramLen ≠ 0) (hbank : 0x20 ≤ bank ∧ bank ≤ 0x3F)
    (hoff : 0x6000 ≤ off ∧ off ≤ 0x7FFF) :
    hiRomTarget index c bank off = .sram (hiRomSramHome (((bank - 0x20) * 0x2000 + (off - 0x6000)) % c.sramLen)) := by
  rw [hiRomTarget, if_neg (by omega), if_neg (by omega), if_pos ⟨hbank.1, hbank.2, hoff.1⟩, sramTarget, if_neg hlen]

end Targets

/-- Without a coprocessor, an address that no region covers is the cartridge's outside work RAM and above the registers of
the system banks (R70). -/
theorem decodeAddr_cart {c : BusParams} {a : Addr} (hnone : c.coprocessor = false) (hfree : ∀ r ∈ c.map, ¬Covers r a)
    (hbank : a.toNat / 65536 ≠ 0x7E ∧ a.toNat / 65536 ≠ 0x7F)
    (hoff : 0x40 ≤ a.toNat / 65536 % 0x80 ∨ 0x4380 ≤ a.toNat % 65536) :
    decodeAddr c a = cartTarget c (a.toNat / 65536) (a.toNat % 65536) := by
  rw [decodeAddr_eq_consoleTarget fun r hr => Region.holds_eq_false_of_not_covers (hfree r hr)]
  have hspace := a.isLt
  by_cases hcart : 0x40 ≤ a.toNat / 65536 % 0x80
  · exact consoleTarget_cart c (by omega)
  · rw [consoleTarget_system c (by omega)]
    exact systemTarget_cart c _ (by omega) fun hpresent => by simp [hnone] at hpresent

theorem cartTarget_hiRom {c : BusParams} (hm : c.mapping = .hiRom) (bank off : Nat) :
    cartTarget c bank off = hiRomTarget hiRomIndex c bank off := by
  rw [cartTarget, hm]

theorem cartTarget_exHiRom {c : BusParams} (hm : c.mapping = .exHiRom) (bank off : Nat) :
    cartTarget c bank off = hiRomTarget exHiRomIndex c bank off := by
  rw [cartTarget, hm]

section Areas

variable {c : BusParams} {a : Addr} (hrom : c.romLen ≠ 0) (hsram : c.sramLen ≠ 0) (hnone : c.coprocessor = false)
  (hfree : ∀ r ∈ c.map, ¬Covers r a)

include hnone hfree

include hrom in
theorem atPlace_loRom (hm : c.mapping = .loRom)
    (h : a.toNat / 65536 ≠ 0x7E ∧ a.toNat / 65536 ≠ 0x7F ∧ 0x8000 ≤ a.toNat % 65536) :
    AtPlace c a .rom loRomHome c.romLen 0x400000 (loRomIndex (a.toNat / 65536) (a.toNat % 65536)) where
  cell := by
    rw [decodeAddr_cart hnone hfree (by omega) (by omega), cartTarget, hm]
    exact loRomTarget_rom hrom h.2.2
  lt := by
    unfold loRomIndex
    omega

include hsram in
theorem atPlace_loRomSram (hm : c.mapping = .loRom)
    (h : (0x70 ≤ a.toNat / 65536 ∧ a.toNat / 65536 ≤ 0x7D ∨ 0xFE ≤ a.toNat / 65536) ∧ a.toNat % 65536 ≤ 0x7FFF) :
    AtPlace c a .sram loRomSramHome c.sramLen 0x80000
      ((a.toNat / 65536 % 0x80 - 0x70) * 0x8000 + a.toNat % 65536) where
  cell := by
    have hspace := a.isLt
    rw [decodeAddr_cart hnone hfree (by omega) (by omega), cartTarget, hm]
    exact loRomTarget_sram hsram h.1 h.2
  lt := by omega

include hrom in
/-- HiROM and ExHiROM, by the place that the mapping gives a byte. -/
theorem atPlace_hiRom {index : Nat → Nat → Nat} (hm : ∀ bank off, cartTarget c bank off = hiRomTarget index c bank off)
    (hindex : index (a.toNat / 65536) (a.toNat % 65536) < 0x800000)
    (h : 0x40 ≤ a.toNat / 65536 ∧ a.toNat / 65536 ≤ 0x7D ∨ 0xC0 ≤ a.toNat / 65536 ∨
      (a.toNat / 65536 ≤ 0x3F ∨ 0x80 ≤ a.toNat / 65536) ∧ 0x8000 ≤ a.toNat % 65536) :
    AtPlace c a .rom hiRomHome c.romLen 0x800000 (index (a.toNat / 65536) (a.toNat % 65536)) where
  cell := by
    have hspace := a.isLt
    rw [decodeAddr_cart hnone hfree (by omega) (by omega), hm]
    exact hiRomTarget_rom index hrom (by omega)
  lt := hindex

include hsram in
theorem atPlace_hiRomSram {index : Nat → Nat → Nat}
    (hm : ∀ bank off, cartTarget c bank off = hiRomTarget index c bank off)
    (h : 0x20 ≤ a.toNat / 65536 ∧ a.toNat / 65536 ≤ 0x3F ∧ 0x6000 ≤ a.toNat % 65536 ∧ a.toNat % 65536 ≤ 0x7FFF) :
    AtPlace c a .sram hiRomSramHome c.sramLen 0x40000
      ((a.toNat / 65536 - 0x20) * 0x2000 + (a.toNat % 65536 - 0x6000)) where
  cell := by
    rw [decodeAddr_cart hnone hfree (by omega) (by omega), hm]
    exact hiRomTarget_sram index hsram ⟨h.1, h.2.1⟩ h.2.2
  lt := by omega

end Areas

theorem hiRomIndex_lt (a : Addr) : hiRomIndex (a.toNat / 65536) (a.toNat % 65536) < 0x800000 := by
  unfold hiRomIndex
  omega

theorem exHiRomIndex_eq (bank off : Nat) :
    exHiRomIndex bank off = (if bank ≤ 0x7F then 0x400000 else 0) + bank % 0x40 * 0x10000 + off := by
  simp only [exHiRomIndex, Nat.lt_succ_iff]

theorem exHiRomIndex_lt (a : Addr) : exHiRomIndex (a.toNat / 65536) (a.toNat % 65536) < 0x800000 := by
  unfold exHiRomIndex
  split <;> omega

theorem Target.rom_injective : Function.Injective Target.rom := fun _ _ => Target.rom.inj

theorem Target.sram_injective : Function.Injective Target.sram := fun _ _ => Target.sram.inj

/-- Settles O21: in each area an address has a place, and the homes of places are distinct. -/
theorem cartridgeWindows : Obligations.CartridgeWindows := by
  intro c a a' hrom hsram hnone hfree
  have hfreeA : ∀ r ∈ c.map, ¬Covers r a := fun r hr => (hfree r hr).1
  have hfreeA' : ∀ r ∈ c.map, ¬Covers r a' := fun r hr => (hfree r hr).2
  refine ⟨fun hm => ⟨fun h h' => ?_, fun h h' => ?_⟩, fun hm => ⟨fun h h' => ?_, fun h h' => ?_⟩,
    fun hm => ⟨fun h h' => ?_, fun h h' => ?_⟩⟩
  · exact (atPlace_loRom hrom hnone hfreeA hm h).area (atPlace_loRom hrom hnone hfreeA' hm h') Target.rom_injective
      loRomHome_injective.injOn
  · exact (atPlace_loRomSram hsram hnone hfreeA hm h).area (atPlace_loRomSram hsram hnone hfreeA' hm h')
      Target.sram_injective loRomSramHome_injective.injOn
  · have hcart := cartTarget_hiRom hm
    exact (atPlace_hiRom hrom hnone hfreeA hcart (hiRomIndex_lt a) h).area
      (atPlace_hiRom hrom hnone hfreeA' hcart (hiRomIndex_lt a') h') Target.rom_injective hiRomHome_injOn
  · have hcart := cartTarget_hiRom hm
    exact (atPlace_hiRomSram hsram hnone hfreeA hcart h).area (atPlace_hiRomSram hsram hnone hfreeA' hcart h')
      Target.sram_injective hiRomSramHome_injective.injOn
  · have hcart := cartTarget_exHiRom hm
    simp only [← exHiRomIndex_eq]
    exact (atPlace_hiRom hrom hnone hfreeA hcart (exHiRomIndex_lt a) h).area
      (atPlace_hiRom hrom hnone hfreeA' hcart (exHiRomIndex_lt a') h') Target.rom_injective hiRomHome_injOn
  · have hcart := cartTarget_exHiRom hm
    exact (atPlace_hiRomSram hsram hnone hfreeA hcart h).area (atPlace_hiRomSram hsram hnone hfreeA' hcart h')
      Target.sram_injective hiRomSramHome_injective.injOn

end Sys2Proof.Machine
end

section
/-! PROOFS. Which instructions may change memory, and that none changes the parameters or the patches of the memory system
(R60, R67, R68): settles O16. -/

namespace Sys2Proof.Machine

open Sys2Proof.Claims

/-! The relation. -/

/-- What an instruction of a mnemonic leaves alone of the Bus: the parameters, the patches, and if it stores nothing the
memory. -/
structure BusKept (m : Mnem) (b b' : Bus) : Prop where
  params : b'.params = b.params
  patches : b'.patches = b.patches
  mem : m ∉ storers → b'.mem = b.mem

namespace BusKept

variable {m : Mnem} {b b' : Bus}

theorem refl (b : Bus) : BusKept m b b := ⟨rfl, rfl, fun _ => rfl⟩

theorem trans {b'' : Bus} (h : BusKept m b b') (h' : BusKept m b' b'') : BusKept m b b'' :=
  ⟨h'.params.trans h.params, h'.patches.trans h.patches, fun hm => (h'.mem hm).trans (h.mem hm)⟩

/-- A mnemonic that stores may change memory. -/
theorem stored (hm : m ∈ storers) (hparams : b'.params = b.params) (hpatches : b'.patches = b.patches) : BusKept m b b' :=
  ⟨hparams, hpatches, fun hn => absurd hm hn⟩

theorem load (o : Operand) (w : Width) (c : Cpu) (b : Bus) : BusKept m b (o.load w c b).2 where
  params := o.load_params w c b
  patches := by cases o <;> simp [Operand.load]
  mem _ := o.load_mem w c b

theorem read16 (b : Bus) (a : Addr) : BusKept m b (b.read16 a).2 :=
  ⟨b.read16_params a, b.read16_patches a, fun _ => b.read16_mem a⟩

theorem read24 (b : Bus) (a : Addr) : BusKept m b (b.read24 a).2 :=
  ⟨b.read24_params a, b.read24_patches a, fun _ => b.read24_mem a⟩

theorem store (hm : m ∈ storers) (mode : MemMode) (w : Width) (v : Word) (c : Cpu) (b : Bus) :
    BusKept m b (mode.store w v c b) :=
  stored hm (by simp [MemMode.store]) (by simp [MemMode.store])

theorem rmw (hm : m ∈ storers) (s : State) (f : Width → Word → Byte → RmwOut) (o : RmwOperand) :
    BusKept m s.bus (s.rmw f o).bus := by
  cases o with
  | acc => exact refl s.bus
  | mem mode => exact stored hm (by simp [State.rmw]) (by simp [State.rmw])

/-- What only pushes and pulls keeps the Bus as a mnemonic that stores may. -/
theorem stack {s t : State} (hm : m ∈ storers) (h : StackOnly s t) : BusKept m s.bus t.bus := stored hm h.params h.patches

theorem push8 (hm : m ∈ storers) (s : State) (v : Byte) : BusKept m s.bus (s.push8 v).bus := stack hm (s.push8_only v)

theorem push16 (hm : m ∈ storers) (s : State) (v : Word) : BusKept m s.bus (s.push16 v).bus := stack hm (s.push16_only v)

theorem pushW (hm : m ∈ storers) (s : State) (w : Width) (v : Word) : BusKept m s.bus (s.pushW w v).bus :=
  stack hm (s.pushW_only w v)

theorem pull8 (s : State) : BusKept m s.bus s.pull8.2.bus :=
  ⟨s.pull8_only.params, s.pull8_only.patches, fun _ => s.pull8_mem⟩

theorem pull16 (s : State) : BusKept m s.bus s.pull16.2.bus :=
  ⟨s.pull16_only.params, s.pull16_only.patches, fun _ => s.pull16_mem⟩

theorem pullW (s : State) (w : Width) : BusKept m s.bus (s.pullW w).2.bus :=
  ⟨(s.pullW_only w).params, (s.pullW_only w).patches, fun _ => s.pullW_mem w⟩

/-- The width discipline cuts registers alone (R31). -/
theorem widthDiscipline {u : State} (h : BusKept m b u.bus) : BusKept m b u.widthDiscipline.bus := by
  rwa [State.widthDiscipline_bus]

end BusKept

/-! Each meaning that is more than one of these. -/

section Meanings

variable (s : State)

theorem branchOp_busKept {m : Mnem} (cond : Bool) (r : Byte) : BusKept m s.bus (branchOp s cond r).bus := by
  unfold branchOp
  split <;> exact .refl s.bus

/-- RTI pulls P and PC, and in native mode PB (R322). -/
theorem returnFromInterrupt_busKept {m : Mnem} : BusKept m s.bus s.returnFromInterrupt.bus := by
  have hpulls : BusKept m s.bus s.pull8.2.pull16.2.bus := (BusKept.pull8 s).trans (.pull16 _)
  unfold State.returnFromInterrupt
  refine BusKept.widthDiscipline ?_
  split
  · exact hpulls
  · exact hpulls.trans (.pull8 ((s.pull8.2.pull16.2.setP s.pull8.1).setPC s.pull8.2.pull16.1))

/-- Interrupt entry pushes, then reads its vector (R356). -/
theorem interrupt_busKept {m : Mnem} (hm : m ∈ storers) (kind : IntKind) : BusKept m s.bus (s.interrupt kind).bus := by
  have hbus : (s.interrupt kind).bus = ((s.entryPushes kind).bus.read16 (mkAddr 0x00 (vectorOf kind s.cpu.e))).2 := by
    rw [State.interrupt_eq]
  rw [hbus]
  exact (BusKept.stack hm (s.entryPushes_only kind)).trans (.read16 _ _)

theorem copyBlock_params (delta : Word) (w : Width) (dst src : Byte) (n : Nat) (x y : Word) (b : Bus) :
    (copyBlock delta w dst src n x y b).2.2.params = b.params := by
  induction n generalizing x y b with
  | zero => rfl
  | succ n ih => rw [copyBlock, ih, Bus.write_params, Bus.read_params]

theorem copyBlock_patches (delta : Word) (w : Width) (dst src : Byte) (n : Nat) (x y : Word) (b : Bus) :
    (copyBlock delta w dst src n x y b).2.2.patches = b.patches := by
  induction n generalizing x y b with
  | zero => rfl
  | succ n ih => rw [copyBlock, ih, Bus.write_patches, Bus.read_patches]

theorem blockMoveOp_busKept {m : Mnem} (hm : m ∈ storers) (delta : Word) (dst src : Byte) :
    BusKept m s.bus (blockMoveOp s delta dst src).bus :=
  .stored hm (copyBlock_params ..) (copyBlock_patches ..)

/-- JSR `(abs,X)` reads its pointer, then pushes (R253). -/
theorem jsrIndXOp_busKept (o : Word) : BusKept .jsr s.bus (jsrIndXOp s o).bus :=
  (BusKept.read16 s.bus _).trans (.push16 (by decide) (s.setBus (indXTarget o s.cpu s.bus).2) _)

/-- JSL pushes the bank, then the address (R254). -/
theorem callLong_busKept (t : Addr) : BusKept .jsl s.bus (s.callLong t).bus :=
  (BusKept.push8 (by decide) s _).trans (.push16 (by decide) (s.push8 s.cpu.pb) _)

/-- PEI reads its word, then pushes it (R284). -/
theorem peiOp_busKept (d : Byte) : BusKept .pei s.bus (peiOp s d).bus :=
  (BusKept.read16 s.bus _).trans (.push16 (by decide) (s.setBus (s.bus.read16 (dpAddr s.cpu d 0)).2) _)

end Meanings

/-! Over all instructions. -/

/-- Every instruction goes on to a next state, with the Bus kept as its mnemonic allows. -/
theorem exec_busKept (i : Instr) (s : State) : ∃ t, exec i s = .next t ∧ BusKept (mnem i) s.bus t.bus :=
  match i with
  | .adcDpXInd _ | .adcSr _ | .adcDp _ | .adcDpIndLong _ | .adcImm _ | .adcAbs _ | .adcLong _ | .adcDpIndY _ | .adcDpInd _
  | .adcSrIndY _ | .adcDpX _ | .adcDpIndLongY _ | .adcAbsY _ | .adcAbsX _ | .adcLongX _
  | .sbcDpXInd _ | .sbcSr _ | .sbcDp _ | .sbcDpIndLong _ | .sbcImm _ | .sbcAbs _ | .sbcLong _ | .sbcDpIndY _ | .sbcDpInd _
  | .sbcSrIndY _ | .sbcDpX _ | .sbcDpIndLongY _ | .sbcAbsY _ | .sbcAbsX _ | .sbcLongX _
  | .cmpDpXInd _ | .cmpSr _ | .cmpDp _ | .cmpDpIndLong _ | .cmpImm _ | .cmpAbs _ | .cmpLong _ | .cmpDpIndY _ | .cmpDpInd _
  | .cmpSrIndY _ | .cmpDpX _ | .cmpDpIndLongY _ | .cmpAbsY _ | .cmpAbsX _ | .cmpLongX _
  | .cpxImm _ | .cpxDp _ | .cpxAbs _ | .cpyImm _ | .cpyDp _ | .cpyAbs _
  | .ldaDpXInd _ | .ldaSr _ | .ldaDp _ | .ldaDpIndLong _ | .ldaImm _ | .ldaAbs _ | .ldaLong _ | .ldaDpIndY _ | .ldaDpInd _
  | .ldaSrIndY _ | .ldaDpX _ | .ldaDpIndLongY _ | .ldaAbsY _ | .ldaAbsX _ | .ldaLongX _
  | .ldxImm _ | .ldxDp _ | .ldxAbs _ | .ldxDpY _ | .ldxAbsY _ | .ldyImm _ | .ldyDp _ | .ldyAbs _ | .ldyDpX _ | .ldyAbsX _
  | .andDpXInd _ | .andSr _ | .andDp _ | .andDpIndLong _ | .andImm _ | .andAbs _ | .andLong _ | .andDpIndY _ | .andDpInd _
  | .andSrIndY _ | .andDpX _ | .andDpIndLongY _ | .andAbsY _ | .andAbsX _ | .andLongX _
  | .oraDpXInd _ | .oraSr _ | .oraDp _ | .oraDpIndLong _ | .oraImm _ | .oraAbs _ | .oraLong _ | .oraDpIndY _ | .oraDpInd _
  | .oraSrIndY _ | .oraDpX _ | .oraDpIndLongY _ | .oraAbsY _ | .oraAbsX _ | .oraLongX _
  | .eorDpXInd _ | .eorSr _ | .eorDp _ | .eorDpIndLong _ | .eorImm _ | .eorAbs _ | .eorLong _ | .eorDpIndY _ | .eorDpInd _
  | .eorSrIndY _ | .eorDpX _ | .eorDpIndLongY _ | .eorAbsY _ | .eorAbsX _ | .eorLongX _
  | .bitDp _ | .bitAbs _ | .bitDpX _ | .bitAbsX _ | .bitImm _ => ⟨_, rfl, .load _ _ s.cpu s.bus⟩
  | .inx | .dex | .iny | .dey | .tax | .tsx | .tay | .tyx | .txy | .txa | .tya | .tdc | .tsc | .xba | .txs | .tcs | .tcd
  | .brl _ | .jmpAbs _ | .jmlLong _ | .clc | .sec | .cli | .sei | .cld | .sed | .clv | .nop | .wdm _ | .wai | .stp =>
    ⟨_, rfl, .refl s.bus⟩
  | .bpl _ | .bmi _ | .bvc _ | .bvs _ | .bcc _ | .bcs _ | .bne _ | .beq _ | .bra _ =>
    ⟨_, rfl, branchOp_busKept s _ _⟩
  | .rep _ | .sep _ | .xce => ⟨_, rfl, .widthDiscipline (.refl s.bus)⟩
  | .jmpInd _ | .jmpIndX _ => ⟨_, rfl, .read16 s.bus _⟩
  | .jmlInd _ => ⟨_, rfl, .read24 s.bus _⟩
  | .rts | .pld => ⟨_, rfl, .pull16 s⟩
  | .rtl => ⟨_, rfl, (BusKept.pull16 s).trans (.pull8 s.pull16.2)⟩
  | .pla | .plx | .ply => ⟨_, rfl, .pullW s _⟩
  | .plb => ⟨_, rfl, .pull8 s⟩
  | .plp => ⟨_, rfl, .widthDiscipline (.pull8 s)⟩
  | .rti => ⟨_, rfl, returnFromInterrupt_busKept s⟩
  | .staDpXInd _ | .staSr _ | .staDp _ | .staDpIndLong _ | .staAbs _ | .staLong _ | .staDpIndY _ | .staDpInd _
  | .staSrIndY _ | .staDpX _ | .staDpIndLongY _ | .staAbsY _ | .staAbsX _ | .staLongX _ =>
    ⟨_, rfl, .store (m := .sta) (by decide) _ _ _ s.cpu s.bus⟩
  | .stxDp _ | .stxAbs _ | .stxDpY _ => ⟨_, rfl, .store (m := .stx) (by decide) _ _ _ s.cpu s.bus⟩
  | .styDp _ | .styAbs _ | .styDpX _ => ⟨_, rfl, .store (m := .sty) (by decide) _ _ _ s.cpu s.bus⟩
  | .stzDp _ | .stzDpX _ | .stzAbs _ | .stzAbsX _ => ⟨_, rfl, .store (m := .stz) (by decide) _ _ _ s.cpu s.bus⟩
  | .incA | .incDp _ | .incAbs _ | .incDpX _ | .incAbsX _ => ⟨_, rfl, .rmw (m := .inc) (by decide) s _ _⟩
  | .decA | .decDp _ | .decAbs _ | .decDpX _ | .decAbsX _ => ⟨_, rfl, .rmw (m := .dec) (by decide) s _ _⟩
  | .aslA | .aslDp _ | .aslAbs _ | .aslDpX _ | .aslAbsX _ => ⟨_, rfl, .rmw (m := .asl) (by decide) s _ _⟩
  | .lsrA | .lsrDp _ | .lsrAbs _ | .lsrDpX _ | .lsrAbsX _ => ⟨_, rfl, .rmw (m := .lsr) (by decide) s _ _⟩
  | .rolA | .rolDp _ | .rolAbs _ | .rolDpX _ | .rolAbsX _ => ⟨_, rfl, .rmw (m := .rol) (by decide) s _ _⟩
  | .rorA | .rorDp _ | .rorAbs _ | .rorDpX _ | .rorAbsX _ => ⟨_, rfl, .rmw (m := .ror) (by decide) s _ _⟩
  | .tsbDp _ | .tsbAbs _ => ⟨_, rfl, .rmw (m := .tsb) (by decide) s _ _⟩
  | .trbDp _ | .trbAbs _ => ⟨_, rfl, .rmw (m := .trb) (by decide) s _ _⟩
  | .jsrAbs _ => ⟨_, rfl, .push16 (m := .jsr) (by decide) s _⟩
  | .jsrIndX _ => ⟨_, rfl, jsrIndXOp_busKept s _⟩
  | .jsl _ => ⟨_, rfl, callLong_busKept s _⟩
  | .pha => ⟨_, rfl, .pushW (m := .pha) (by decide) s _ _⟩
  | .phx => ⟨_, rfl, .pushW (m := .phx) (by decide) s _ _⟩
  | .phy => ⟨_, rfl, .pushW (m := .phy) (by decide) s _ _⟩
  | .php => ⟨_, rfl, .push8 (m := .php) (by decide) s _⟩
  | .phb => ⟨_, rfl, .push8 (m := .phb) (by decide) s _⟩
  | .phk => ⟨_, rfl, .push8 (m := .phk) (by decide) s _⟩
  | .phd => ⟨_, rfl, .push16 (m := .phd) (by decide) s _⟩
  | .pea _ => ⟨_, rfl, .push16 (m := .pea) (by decide) s _⟩
  | .per _ => ⟨_, rfl, .push16 (m := .per) (by decide) s _⟩
  | .pei _ => ⟨_, rfl, peiOp_busKept s _⟩
  | .brk _ => ⟨_, rfl, interrupt_busKept (m := .brk) s (by decide) _⟩
  | .cop _ => ⟨_, rfl, interrupt_busKept (m := .cop) s (by decide) _⟩
  | .mvn _ _ => ⟨_, rfl, blockMoveOp_busKept (m := .mvn) s (by decide) _ _ _⟩
  | .mvp _ _ => ⟨_, rfl, blockMoveOp_busKept (m := .mvp) s (by decide) _ _ _⟩

/-- The accumulator forms of the read-modify-write instructions leave the Bus alone (R116). -/
theorem exec_acc_bus {i : Instr} (hi : i ∈ [.incA, .decA, .aslA, .lsrA, .rolA, .rorA]) {s t : State}
    (h : exec i s = .next t) : t.bus = s.bus := by
  simp only [List.mem_cons, List.not_mem_nil, or_false] at hi
  obtain rfl | rfl | rfl | rfl | rfl | rfl := hi <;> cases h <;> rfl

/-- Settles O16: the accumulator forms on their own, every other instruction by its mnemonic. -/
theorem memoryWriters : Obligations.MemoryWriters := by
  intro i s t h
  obtain ⟨t', ht, hkept⟩ := exec_busKept i s
  obtain rfl : t = t' := by rw [ht] at h; cases h; rfl
  refine ⟨fun hstore k => ?_, hkept.params, hkept.patches⟩
  by_cases hacc : i ∈ [.incA, .decA, .aslA, .lsrA, .rolA, .rorA]
  · rw [exec_acc_bus hacc h]
  · rw [hkept.mem fun hm => hstore ⟨hm, hacc⟩]

end Sys2Proof.Machine
end

section
/-! PROOFS. The decoder answers an instruction exactly when the bytes begin with its encoding (R90 to R97), and a step
runs the instruction whose bytes stand at `PB:PC` (R353): settles O1, O2 and O4. -/

namespace Sys2Proof

open Sys2Proof.Machine

/-! Words and addresses as their bytes, low first (R91). -/

theorem wordOf_loByte_hiByte (v : Word) : wordOf (loByte v) (hiByte v) = v := by
  apply BitVec.eq_of_toNat_eq
  rw [wordOf_toNat, loByte_toNat, hiByte_toNat]
  omega

theorem wordBytes_wordOf (lo hi : Byte) : wordBytes (wordOf lo hi) = [lo, hi] := by
  rw [wordBytes, loByte, hiByte, wordOf, BitVec.extractLsb'_append_eq_left, BitVec.extractLsb'_append_eq_right]

theorem Imm.bytes_b8 (v : Byte) : (Imm.b8 v).bytes = [v] := rfl

theorem Imm.bytes_b16 (v : Word) : (Imm.b16 v).bytes = wordBytes v := rfl

theorem addrOf_extractLsb' (a : Addr) : addrOf (a.extractLsb' 0 8) (a.extractLsb' 8 8) (a.extractLsb' 16 8) = a := by
  apply BitVec.eq_of_toNat_eq
  rw [addrOf_toNat]
  simp only [BitVec.extractLsb'_toNat, Nat.shiftRight_eq_div_pow]
  omega

theorem addrBytes_addrOf (lo mid bank : Byte) : addrBytes (addrOf lo mid bank) = [lo, mid, bank] := by
  have hlo := lo.isLt
  have hmid := mid.isLt
  have hbank := bank.isLt
  simp only [addrBytes, List.cons.injEq, and_true, ← BitVec.toNat_inj, BitVec.extractLsb'_toNat, addrOf_toNat,
    Nat.shiftRight_eq_div_pow]
  omega

/-! Building an instruction from the bytes of its operand (R93, R100). -/

theorem Shape.build_f3 (m8 x8 : Bool) (mk : Word → Instr) (v : Word) :
    (Shape.f3 mk).build m8 x8 (wordBytes v) = some (mk v) := by
  rw [wordBytes, Shape.build, wordOf_loByte_hiByte]

theorem Shape.build_f4 (m8 x8 : Bool) (mk : Addr → Instr) (a : Addr) :
    (Shape.f4 mk).build m8 x8 (addrBytes a) = some (mk a) := by
  rw [addrBytes, Shape.build, addrOf_extractLsb']

theorem Shape.build_fim {m8 x8 : Bool} {mk : Imm → Instr} {v : Imm} (h : v.fits m8 = true) :
    (Shape.fim mk).build m8 x8 v.bytes = some (mk v) := by
  cases v <;> simp_all [Imm.fits, Imm.bytes, Shape.build, wordOf_loByte_hiByte]

theorem Shape.build_fix {m8 x8 : Bool} {mk : Imm → Instr} {v : Imm} (h : v.fits x8 = true) :
    (Shape.fix mk).build m8 x8 v.bytes = some (mk v) := by
  cases v <;> simp_all [Imm.fits, Imm.bytes, Shape.build, wordOf_loByte_hiByte]

/-- An entry builds an instruction from its own number of operand bytes only (R92). -/
theorem Shape.length_of_build {m8 x8 : Bool} {sh : Shape} {operand : List Byte} {i : Instr}
    (h : sh.build m8 x8 operand = some i) : operand.length = sh.operandBytes m8 x8 := by
  fun_cases Shape.build m8 x8 sh operand <;> simp_all [Shape.build, Shape.operandBytes]

/-- The encoder writes the instructions of an entry as `op` and the bytes of their operand (R91, R93), and they are well
formed, where an immediate must have the width in force (R94, R95, R100). -/
def Shape.EncodesAt (op : Byte) : Shape → Prop
  | .f1 i => encode i = [op] ∧ ∀ m8 x8, i.wf m8 x8 = true
  | .f2 mk => (∀ b, encode (mk b) = [op, b]) ∧ ∀ m8 x8 b, (mk b).wf m8 x8 = true
  | .f3 mk => (∀ v, encode (mk v) = op :: wordBytes v) ∧ ∀ m8 x8 v, (mk v).wf m8 x8 = true
  | .f3m mk => (∀ b0 b1, encode (mk b0 b1) = [op, b0, b1]) ∧ ∀ m8 x8 b0 b1, (mk b0 b1).wf m8 x8 = true
  | .f4 mk => (∀ a, encode (mk a) = op :: addrBytes a) ∧ ∀ m8 x8 a, (mk a).wf m8 x8 = true
  | .fim mk => (∀ v, encode (mk v) = op :: v.bytes) ∧ ∀ m8 x8 v, (mk v).wf m8 x8 = v.fits m8
  | .fix mk => (∀ v, encode (mk v) = op :: v.bytes) ∧ ∀ m8 x8 v, (mk v).wf m8 x8 = v.fits x8

/-- The opcode map agrees with the encoder: each of the 256 entries by evaluation, for every operand (R130). -/
theorem shapeOf_encodesAt (op : Byte) : (shapeOf op).EncodesAt op := by
  obtain ⟨k, hk⟩ := op
  interval_cases k <;> constructor <;> intros <;> rfl

/-- What an entry builds is encoded as its opcode and the bytes it was built from: each branch of `Shape.build` that
answers an instruction makes the operand from the bytes given, and these are the operand's bytes. -/
theorem Shape.EncodesAt.encode_of_build {op : Byte} {sh : Shape} (hsh : sh.EncodesAt op) (m8 x8 : Bool)
    (operand : List Byte) :
    ∀ i, sh.build m8 x8 operand = some i → encode i = op :: operand ∧ i.wf m8 x8 = true := by
  fun_cases Shape.build m8 x8 sh operand <;> simp only [Shape.EncodesAt] at hsh <;>
    simp [*, Imm.bytes_b8, Imm.bytes_b16, Imm.fits, wordBytes_wordOf, addrBytes_addrOf]

/-- A well-formed instruction is what the entry of its opcode builds from the operand bytes of its encoding. The cases are
the operands that are put together from bytes: immediates of `m8` and of `x8`, words, long addresses. -/
theorem Instr.build_encode {m8 x8 : Bool} {i : Instr} (h : i.wf m8 x8 = true) :
    ∃ op operand, encode i = op :: operand ∧ (shapeOf op).build m8 x8 operand = some i := by
  cases i with
  | oraImm v | andImm v | eorImm v | adcImm v | bitImm v | ldaImm v | cmpImm v | sbcImm v =>
    exact ⟨_, _, rfl, Shape.build_fim h⟩
  | ldyImm v | ldxImm v | cpyImm v | cpxImm v =>
    exact ⟨_, _, rfl, Shape.build_fix h⟩
  | tsbAbs o | oraAbs o | aslAbs o | oraAbsY o | trbAbs o | oraAbsX o | aslAbsX o | jsrAbs o | bitAbs o | andAbs o
  | rolAbs o | andAbsY o | bitAbsX o | andAbsX o | rolAbsX o | jmpAbs o | eorAbs o | lsrAbs o | eorAbsY o | eorAbsX o
  | lsrAbsX o | per o | jmpInd o | adcAbs o | rorAbs o | adcAbsY o | jmpIndX o | adcAbsX o | rorAbsX o | brl o
  | styAbs o | staAbs o | stxAbs o | staAbsY o | stzAbs o | staAbsX o | stzAbsX o | ldyAbs o | ldaAbs o | ldxAbs o
  | ldaAbsY o | ldyAbsX o | ldaAbsX o | ldxAbsY o | cpyAbs o | cmpAbs o | decAbs o | cmpAbsY o | jmlInd o | cmpAbsX o
  | decAbsX o | cpxAbs o | sbcAbs o | incAbs o | pea o | sbcAbsY o | jsrIndX o | sbcAbsX o | incAbsX o =>
    exact ⟨_, _, rfl, Shape.build_f3 _ _ _ o⟩
  | oraLong a | oraLongX a | jsl a | andLong a | andLongX a | eorLong a | jmlLong a | eorLongX a | adcLong a
  | adcLongX a | staLong a | staLongX a | ldaLong a | ldaLongX a | cmpLong a | cmpLongX a | sbcLong a | sbcLongX a =>
    exact ⟨_, _, rfl, Shape.build_f4 _ _ _ a⟩
  | _ => exact ⟨_, _, rfl, rfl⟩

/-- The entry of `op` builds `i` from the operand bytes exactly when those are the encoding of `i`. -/
theorem build_eq_some_iff {m8 x8 : Bool} {op : Byte} {operand : List Byte} {i : Instr} :
    (shapeOf op).build m8 x8 operand = some i ↔ encode i = op :: operand ∧ i.wf m8 x8 = true := by
  refine ⟨(shapeOf_encodesAt op).encode_of_build m8 x8 operand i, fun ⟨henc, hwf⟩ => ?_⟩
  obtain ⟨op', operand', henc', hbuild⟩ := Instr.build_encode hwf
  obtain ⟨rfl, rfl⟩ := List.cons.inj (henc.symm.trans henc')
  exact hbuild

/-! Decoding (R92). -/

theorem decode_of_build {m8 x8 : Bool} {op : Byte} {operand : List Byte} {i : Instr}
    (h : (shapeOf op).build m8 x8 operand = some i) (rest : List Byte) :
    decode m8 x8 (op :: (operand ++ rest)) = .ok (i, rest) := by
  simp only [decode, ← Shape.length_of_build h, List.take_left, List.drop_left, h]

theorem build_of_decode {m8 x8 : Bool} {op : Byte} {bytes rest : List Byte} {i : Instr}
    (h : decode m8 x8 (op :: bytes) = .ok (i, rest)) :
    ∃ operand, bytes = operand ++ rest ∧ (shapeOf op).build m8 x8 operand = some i := by
  refine ⟨bytes.take ((shapeOf op).operandBytes m8 x8), ?_⟩
  simp only [decode] at h
  split at h
  · next j hj =>
    cases h
    exact ⟨(List.take_append_drop _ _).symm, hj⟩
  · cases h

/-- The decoder answers an instruction exactly when the bytes begin with its encoding and it is well formed. -/
theorem decode_eq_ok_iff {m8 x8 : Bool} {bytes rest : List Byte} {i : Instr} :
    decode m8 x8 bytes = .ok (i, rest) ↔ encode i ++ rest = bytes ∧ i.wf m8 x8 = true := by
  constructor
  · intro h
    cases bytes with
    | nil => cases h
    | cons op bytes =>
      obtain ⟨operand, rfl, hbuild⟩ := build_of_decode h
      obtain ⟨henc, hwf⟩ := build_eq_some_iff.mp hbuild
      exact ⟨by rw [henc, List.cons_append], hwf⟩
  · rintro ⟨rfl, hwf⟩
    obtain ⟨op, operand, henc, hbuild⟩ := Instr.build_encode hwf
    rw [henc]
    exact decode_of_build hbuild rest

/-- No instruction takes more than three bytes after its opcode (R92). -/
theorem Shape.operandBytes_le (m8 x8 : Bool) (sh : Shape) : sh.operandBytes m8 x8 ≤ 3 := by
  cases sh <;> simp only [Shape.operandBytes] <;> (try split) <;> omega

/-- No opcode is undefined: with its operand bytes after it, every one decodes (R97, R132). -/
theorem exists_decode_of_length {m8 x8 : Bool} {op : Byte} {bytes : List Byte}
    (h : (shapeOf op).operandBytes m8 x8 ≤ bytes.length) : ∃ r, decode m8 x8 (op :: bytes) = .ok r := by
  obtain ⟨i, hi⟩ := Shape.build_isSome m8 x8 (shapeOf op) _ (List.length_take_of_le h)
  exact ⟨(i, bytes.drop ((shapeOf op).operandBytes m8 x8)), by simp only [decode, hi]⟩

/-- Settles O1: a well-formed instruction's encoding, with any bytes after it, is what decodes to it. -/
theorem encodingRoundTrip : Obligations.EncodingRoundTrip :=
  fun _ _ _ _ hwf => decode_eq_ok_iff.mpr ⟨rfl, hwf⟩

/-- Settles O2: three bytes are enough for the operand of any opcode, and the decoder answers nothing but what the
encoder writes. -/
theorem everyOpcodeDecodes : Obligations.EveryOpcodeDecodes := by
  refine ⟨fun m8 x8 op _ _ _ rest => exists_decode_of_length ?_, fun _ _ _ _ _ => decode_eq_ok_iff.mp⟩
  exact ((shapeOf op).operandBytes_le m8 x8).trans (Nat.le_add_left 3 rest.length)

end Sys2Proof

namespace Sys2Proof.Machine

open Sys2Proof.Claims

/-! Fetching (R90, R91). -/

theorem State.fetch8_pc (s : State) : s.fetch8.2.cpu.pc.toNat % 65536 = (s.cpu.pc.toNat + 1) % 65536 := by
  simp [BitVec.toNat_add]

theorem fetched_zero (s : State) : fetched 0 s = s := by
  simp [fetched, readSeq]

theorem fetched_succ (n : Nat) (s : State) : fetched (n + 1) s = fetched n s.fetch8.2 := by
  have hcpu : BitVec.ofNat 16 (s.cpu.pc.toNat + (n + 1)) = BitVec.ofNat 16 (s.fetch8.2.cpu.pc.toNat + n) := by
    apply BitVec.eq_of_toNat_eq
    have hpc := s.fetch8_pc
    simp only [BitVec.toNat_ofNat]
    omega
  simp only [fetched, readSeq, ← mkAddr_eq_byteAddr, hcpu]
  rw [← readSeq_congr s.fetch8_pc]
  rfl

/-- Bytes fetched one after another are the reads of the Bus at `PB:PC` and on. -/
theorem State.fetchBytes_eq (n : Nat) (s : State) :
    State.fetchBytes n s = ((readSeq n s.cpu.pb.toNat s.cpu.pc.toNat s.bus).1, fetched n s) := by
  induction n generalizing s with
  | zero => rw [fetched_zero]; rfl
  | succ n ih =>
    rw [State.fetchBytes, ih, fetched_succ, readSeq, ← mkAddr_eq_byteAddr, ← readSeq_congr s.fetch8_pc]
    rfl

/-- With no byte left over, the fetch delivers the well-formed instruction whose encoding stands at `PB:PC`. -/
theorem State.fetchInstr_of_encode {s : State} {i : Instr} (hwf : i.wf s.cpu.m8 s.cpu.x8 = true)
    (hbytes : (readSeq (encode i).length s.cpu.pb.toNat s.cpu.pc.toNat s.bus).1 = encode i) :
    s.fetchInstr = (.ok (i, []), fetched (encode i).length s) := by
  obtain ⟨op, operand, henc, hbuild⟩ := Instr.build_encode hwf
  have hfetch : State.fetchBytes (operand.length + 1) s = (encode i, fetched (encode i).length s) := by
    rw [State.fetchBytes_eq, ← List.length_cons (a := op), ← henc, hbytes]
  have hop : s.fetch8.1 = op := (List.cons.inj ((congrArg Prod.fst hfetch).trans henc)).1
  have hdecode : decode s.cpu.m8 s.cpu.x8 (encode i) = .ok (i, []) := decode_eq_ok_iff.mpr ⟨List.append_nil _, hwf⟩
  calc s.fetchInstr
      = (decode s.cpu.m8 s.cpu.x8 (State.fetchBytes (operand.length + 1) s).1,
          (State.fetchBytes (operand.length + 1) s).2) := by
        rw [State.fetchInstr, hop, ← Shape.length_of_build hbuild, ← hop]; rfl
    _ = (.ok (i, []), fetched (encode i).length s) := by rw [hfetch, hdecode]

/-! The boundary (R353). -/

theorem boundaryStep_instr {s : State} (hreset : s.resetReq = none) (hrun : s.cpu.run = .running)
    (hnmi : s.cpu.nmiReq = false) (hirq : s.irqLine = false ∨ bitOf s.cpu.p 2 = true) :
    boundaryStep s = instrStep s := by
  have hmask : (s.irqLine && !flagGet s.cpu.p .i) = false := by
    rw [flagGet_eq_bitOf, Flag.bit]
    rcases hirq with h | h <;> simp [h]
  simp [boundaryStep, State.move, hreset, hrun, hnmi, hmask]

/-- Settles O4: at this boundary the step is an instruction step, and what it fetches is the encoded instruction. -/
theorem stepRunsInstructionAtPC : Obligations.StepRunsInstructionAtPC := by
  rintro s i ⟨hquiet, hreset, hrun, hnmi, hirq⟩ hwf hbytes
  have hfetch := State.fetchInstr_of_encode (s := polled s) hwf hbytes
  obtain ⟨t, ht⟩ := exec_next i (fetched (encode i).length (polled s))
  refine ⟨t, ht, ?_⟩
  calc step s = boundaryStep (polled s) := step_of_quiet hquiet
    _ = instrStep (polled s) := boundaryStep_instr hreset hrun hnmi hirq
    _ = .next (charged t) := by simp only [instrStep, hfetch, ht]; rfl

end Sys2Proof.Machine
end

section
/-! PROOFS. The status byte as its flags written, loads and stores as the statements say them (R9, R21, R61, R63), and the
forms of LDA, LDX, LDY, STA, STX, STY and STZ (R140 to R146): settles O3, O28, O29 and O30. -/

namespace Sys2Proof.Machine

open Sys2Proof.Claims

/-- Settles O3: each word is the encoding of the instruction named, well formed under the widths given. -/
theorem decodesSpecWords : Obligations.DecodesSpecWords := by
  refine ⟨?_, ?_, ?_, ?_, ?_, ?_, ?_, ?_, ?_, ?_, ?_, ?_⟩ <;> exact decode_eq_ok_iff.mpr ⟨rfl, rfl⟩

/-! The status byte (R27). -/

/-- The value that is written to a flag, if one is. -/
def writtenValue (f : FlagWrites) : Flag → Option Bool
  | .c => f.c
  | .z => f.z
  | .i => f.i
  | .d => f.d
  | .x => f.x
  | .m => f.m
  | .v => f.v
  | .n => f.n

/-- A flag written has its value, and any other the one before (R27). -/
theorem flagGet_status (p : Byte) (f : FlagWrites) (g : Flag) :
    flagGet (status p f) g = (writtenValue f g).getD (flagGet p g) := by
  have hbit (q : Bool) {n : Nat} (h : n = q.toNat) : (n == 1) = q := by subst h; cases q <;> rfl
  rw [flagGet_eq_bitOf, flagGet_eq_bitOf, status, bitOf, BitVec.toNat_ofNat]
  refine hbit _ ?_
  have hn := (f.n.getD (bitOf p 7)).toNat_le
  have hv := (f.v.getD (bitOf p 6)).toNat_le
  have hm := (f.m.getD (bitOf p 5)).toNat_le
  have hx := (f.x.getD (bitOf p 4)).toNat_le
  have hd := (f.d.getD (bitOf p 3)).toNat_le
  have hi := (f.i.getD (bitOf p 2)).toNat_le
  have hz := (f.z.getD (bitOf p 1)).toNat_le
  have hc := (f.c.getD (bitOf p 0)).toNat_le
  cases g <;> simp only [writtenValue, Flag.bit] <;> omega

theorem Width.msb_eq_isNeg (w : Width) (v : Word) : w.msb v = isNeg w v.toNat := by
  rw [Width.msb, isNeg, BitVec.getLsbD, Nat.testBit_eq_decide_div_mod_eq]
  rfl

theorem Width.mask_beq_zero (w : Width) (v : Word) : (w.mask v == 0) = isZero w v.toNat := by
  rw [isZero, ← Width.mask_toNat, Bool.eq_iff_iff, beq_iff_eq, beq_iff_eq, ← BitVec.toNat_inj]
  rfl

/-- `SetNZ(v, w)` writes N and Z (R9). -/
theorem setNZ_eq_status (w : Width) (v : Word) (p : Byte) : setNZ w v p = status p (nz w v.toNat) := by
  refine byte_ext_flags fun f => ?_
  rw [flagGet_setNZ, flagGet_status, Width.msb_eq_isNeg, Width.mask_beq_zero]
  cases f <;> rfl

/-! Registers at a width. -/

/-- An 8-bit result is the low byte of its register (R21). -/
theorem loByte_merge_w8 (old v : Word) : loByte (Width.w8.merge old v) = loByte v := by
  apply BitVec.eq_of_getLsbD_eq
  intro i hi
  simp only [Width.merge, loByte, BitVec.getLsbD_extractLsb', BitVec.getLsbD_or, BitVec.getLsbD_and]
  interval_cases i <;> simp

/-- At 8 bits the high byte of the register is kept (R21). -/
theorem Width.merge_eq_intoAcc (w : Width) (a v : Word) : w.merge a v = intoAcc w a v.toNat := by
  cases w with
  | w8 =>
    apply BitVec.eq_of_toNat_eq
    have ha := a.isLt
    rw [← wordOf_loByte_hiByte (Width.w8.merge a v), loByte_merge_w8, hiByte_merge_w8, wordOf_toNat, loByte_toNat,
      hiByte_toNat, intoAcc, BitVec.toNat_ofNat]
    omega
  | w16 => rw [Width.merge, intoAcc, BitVec.ofNat_toNat, BitVec.setWidth_eq]

/-! Operands that are loaded. -/

theorem leRead_lt (w : Width) (bank off : Nat) (b : Bus) : (leRead (bytesOf w) bank off b).1 < 65536 := by
  cases w with
  | w8 =>
    have := (b.read (byteAddr bank off)).1.isLt
    simp only [bytesOf, leRead, readSeq, leNat]
    omega
  | w16 => exact leRead_lt_word bank off b

/-- `Load(w)` gives an immediate of the width, or what `MemRead(EA, w/8)` reads (R100, R61). -/
theorem Operand.load_isLoad (o : Operand) (w : Width) (c : Cpu) (b : Bus) : IsLoad w c b (o.load w c b) o := by
  cases o with
  | imm v =>
    refine ⟨rfl, ?_⟩
    match v, w with
    | .b8 v, .w8 =>
      show (Width.w8.mask (v.setWidth 16)).toNat = v.toNat
      rw [Width.mask_toNat, BitVec.toNat_setWidth_of_le (by decide)]
      exact Nat.mod_eq_of_lt v.isLt
    | .b16 _, .w16 => rfl
    | .b8 _, .w16 | .b16 _, .w8 => trivial
  | mem m =>
    show (_, _) = leRead _ _ _ _
    rw [Operand.load, Bus.readW_eq_leRead, BitVec.toNat_ofNat, Nat.mod_eq_of_lt (leRead_lt w _ _ _)]

theorem Operand.load_sameBytes (o : Operand) (w : Width) (c : Cpu) (b : Bus) : SameBytes b (o.load w c b).2 := fun k =>
  congrArg (·.read k) (o.load_mem w c b)

/-! Stores of any length. -/

theorem sameBytes_onlyCells {b b' : Bus} (h : SameBytes b b') (as : List Addr) : OnlyCells as b b' := fun _ k _ => h k

theorem onlyCells_trans {as as' : List Addr} {b b' b'' : Bus} (h : OnlyCells as b b') (h' : OnlyCells as' b' b'')
    (hparams : b'.params = b.params) : OnlyCells (as ++ as') b b'' := by
  intro hgdma k hk
  simp only [List.forall_mem_append] at hgdma hk
  obtain ⟨hgdma, hgdma'⟩ := hgdma
  obtain ⟨hk, hk'⟩ := hk
  rw [← hparams] at hgdma' hk'
  exact (h' hgdma' k hk').trans (h hgdma k hk)

theorem Bus.write_onlyCells (b : Bus) (a : Addr) (v : Byte) : OnlyCells [a] b (b.write a v) := fun hgdma _ hk =>
  Bus.write_read_of_ne v (hgdma a List.mem_cons_self) (hk a List.mem_cons_self)

/-- `MemWrite` changes the cells of its own addresses alone (R63). -/
theorem leWrite_onlyCells (n bank off v : Nat) (b : Bus) :
    OnlyCells ((List.range n).map fun j => byteAddr bank (off + j)) b (leWrite n bank off v b) := by
  induction n generalizing off v b with
  | zero => exact fun _ _ _ => rfl
  | succ n ih =>
    have haddrs : (List.range (n + 1)).map (fun j => byteAddr bank (off + j)) =
        [byteAddr bank off] ++ (List.range n).map fun j => byteAddr bank (off + 1 + j) := by
      simp [List.range_succ_eq_map, Function.comp_def, Nat.add_comm 1, Nat.add_assoc]
    rw [haddrs]
    exact onlyCells_trans (b.write_onlyCells _ _) (ih (off + 1) (v / 256) _) (b.write_params _ _)

theorem storeAt_onlyCells (w : Width) (a : Addr) (v : Nat) (b : Bus) :
    OnlyCells (accessed (bytesOf w) a) b (storeAt w a v b) :=
  leWrite_onlyCells _ _ _ v b

theorem Bus.writeW_eq_storeAt (b : Bus) (w : Width) (a : Addr) (v : Word) : b.writeW w a v = storeAt w a v.toNat b :=
  b.writeW_eq_leWrite w a v

theorem MemMode.ea_sameBytes (m : MemMode) (c : Cpu) (b : Bus) : SameBytes b (m.ea c b).2 := fun k =>
  congrArg (·.read k) (m.ea_mem c b)

/-! The forms of an instruction. -/

theorem wordBytes_eq (v : Word) : wordBytes v = [byteOf v.toNat 0, byteOf v.toNat 1] := by
  rw [byteOf_zero_eq_loByte, byteOf_one_eq_hiByte, wordBytes]

theorem addrBytes_eq (a : Addr) : addrBytes a = [byteOf a.toNat 0, byteOf a.toNat 1, byteOf a.toNat 2] := by
  simp only [addrBytes, byteOf, List.cons.injEq, and_true, ← BitVec.toNat_inj, BitVec.extractLsb'_toNat,
    BitVec.toNat_ofNat, Nat.shiftRight_eq_div_pow]
  omega

/-- The operand bytes of a memory mode as the encoder writes them (R91, R93). -/
def MemMode.encoded : MemMode → List Byte
  | .abs o | .absX o | .absY o => wordBytes o
  | .long a | .longX a => addrBytes a
  | .dp d | .dpX d | .dpY d | .dpInd d | .dpIndLong d | .dpIndY d | .dpIndLongY d | .dpXInd d | .sr d | .srIndY d => [d]

theorem modeBytes_eq_encoded (m : MemMode) : modeBytes m = m.encoded := by
  cases m with
  | abs o | absX o | absY o => exact (wordBytes_eq o).symm
  | long a | longX a => exact (addrBytes_eq a).symm
  | _ => rfl

/-- The bytes of an operand that is read as the encoder writes them (R91, R100). -/
def Operand.encoded : Operand → List Byte
  | .imm v => v.bytes
  | .mem m => m.encoded

theorem operandBytes_eq_encoded (o : Operand) : operandBytes o = o.encoded := by
  cases o with
  | imm v =>
    cases v with
    | b8 v => rfl
    | b16 v => exact (wordBytes_eq v).symm
  | mem m => exact modeBytes_eq_encoded m

/-- Every form encodes as its opcode byte and the bytes of its operand, and executes as the meaning `run` on that operand. -/
def FormsRun {α : Type} (bytes : α → List Byte) (forms : α → Option (Byte × Instr)) (run : State → α → State) : Prop :=
  ∀ o op i, forms o = some (op, i) → encode i = op :: bytes o ∧ ∀ s, exec i s = .next (run s o)

/-- An instruction loads its operand when its meaning is the load and then `post` on the registers. -/
theorem loadsOperand_of_formsRun {forms : Operand → Option (Byte × Instr)} {w : Cpu → Width}
    {post : Operand → Width → Nat → Cpu → Cpu} {run : State → Operand → State}
    (hforms : FormsRun Operand.encoded forms run)
    (hrun : ∀ s o, run s o =
      { s with
        cpu := post o (w s.cpu) (o.load (w s.cpu) s.cpu s.bus).1.toNat s.cpu
        bus := (o.load (w s.cpu) s.cpu s.bus).2 }) :
    LoadsOperand forms w post := by
  intro o op i s h
  obtain ⟨henc, hexec⟩ := hforms o op i h
  exact ⟨by rw [henc, operandBytes_eq_encoded], by rw [hexec, hrun], o.load_isLoad _ _ _, o.load_sameBytes _ _ _⟩

/-- An instruction stores a value when its meaning is the store of a word that is that number. -/
theorem storesValue_of_formsRun {forms : MemMode → Option (Byte × Instr)} {w : Cpu → Width} {value : Width → Cpu → Nat}
    {run : State → MemMode → State} {word : State → Word} (hforms : FormsRun MemMode.encoded forms run)
    (hrun : ∀ s m, run s m = s.store m (w s.cpu) (word s)) (hword : ∀ s, (word s).toNat = value (w s.cpu) s.cpu) :
    StoresValue forms w value := by
  intro m op i s h
  obtain ⟨henc, hexec⟩ := hforms m op i h
  refine ⟨by rw [henc, modeBytes_eq_encoded], ?_, ?_⟩
  · rw [hexec, hrun, State.store, MemMode.store, Bus.writeW_eq_storeAt, hword]
    rfl
  · exact onlyCells_trans (sameBytes_onlyCells (m.ea_sameBytes _ _) []) (storeAt_onlyCells _ _ _ _) (m.ea_params _ _)

/-! Loads (R140 to R142). -/

theorem ldaForms_run : FormsRun Operand.encoded ldaForms ldaOp := by
  intro o op i h
  unfold ldaForms at h
  split at h <;> cases h <;> exact ⟨rfl, fun _ => rfl⟩

theorem ldxForms_run : FormsRun Operand.encoded ldxForms ldxOp := by
  intro o op i h
  unfold ldxForms at h
  split at h <;> cases h <;> exact ⟨rfl, fun _ => rfl⟩

theorem ldyForms_run : FormsRun Operand.encoded ldyForms ldyOp := by
  intro o op i h
  unfold ldyForms at h
  split at h <;> cases h <;> exact ⟨rfl, fun _ => rfl⟩

/-- Settles O28: LDA is a load into the accumulator at width `mw` and `SetNZ`. -/
theorem ldaResult : Obligations.LdaResult :=
  loadsOperand_of_formsRun ldaForms_run fun s o => by
    rw [← Width.merge_eq_intoAcc, ← setNZ_eq_status]
    rfl

/-- Settles O29: LDX and LDY are loads of the index register at width `xw` and `SetNZ`. -/
theorem indexLoadResult : Obligations.IndexLoadResult := by
  constructor
  · refine loadsOperand_of_formsRun ldxForms_run fun s o => ?_
    rw [BitVec.ofNat_toNat, BitVec.setWidth_eq, ← setNZ_eq_status]
    rfl
  · refine loadsOperand_of_formsRun ldyForms_run fun s o => ?_
    rw [BitVec.ofNat_toNat, BitVec.setWidth_eq, ← setNZ_eq_status]
    rfl

/-! Stores (R143 to R146). -/

theorem staForms_run : FormsRun MemMode.encoded staForms staOp := by
  intro m op i h
  unfold staForms at h
  split at h <;> cases h <;> exact ⟨rfl, fun _ => rfl⟩

theorem stxForms_run : FormsRun MemMode.encoded stxForms stxOp := by
  intro m op i h
  unfold stxForms at h
  split at h <;> cases h <;> exact ⟨rfl, fun _ => rfl⟩

theorem styForms_run : FormsRun MemMode.encoded styForms styOp := by
  intro m op i h
  unfold styForms at h
  split at h <;> cases h <;> exact ⟨rfl, fun _ => rfl⟩

theorem stzForms_run : FormsRun MemMode.encoded stzForms stzOp := by
  intro m op i h
  unfold stzForms at h
  split at h <;> cases h <;> exact ⟨rfl, fun _ => rfl⟩

/-- Settles O30: each stores its register cut to the width, STZ a zero. -/
theorem storeResult : Obligations.StoreResult :=
  ⟨storesValue_of_formsRun staForms_run (fun _ _ => rfl) fun _ => Width.mask_toNat _ _,
    storesValue_of_formsRun stxForms_run (fun _ _ => rfl) fun _ => Width.mask_toNat _ _,
    storesValue_of_formsRun styForms_run (fun _ _ => rfl) fun _ => Width.mask_toNat _ _,
    storesValue_of_formsRun stzForms_run (fun _ _ => rfl) fun _ => rfl⟩

end Sys2Proof.Machine
end

section
/-! PROOFS. What a register, N and Z hold after a value is written to the register at a width, and the register transfers and XBA
as such writes (R160 to R172): settles O31 and O32. -/

namespace Sys2Proof.Machine

open Sys2Proof.Claims

/-! A value cut to a width, and its N and Z. -/

theorem ofNat_low (w : Width) (v : Word) : BitVec.ofNat 16 (low w v) = w.mask v := by
  rw [low, ← Width.mask_toNat, BitVec.ofNat_toNat, BitVec.setWidth_eq]

theorem isNeg_mod (w : Width) (n : Nat) : isNeg w (n % 2 ^ w.bits) = isNeg w n := by
  have hbit : n % 2 ^ w.bits / 2 ^ (w.bits - 1) % 2 = n / 2 ^ (w.bits - 1) % 2 := by
    cases w <;> simp only [Width.bits] <;> omega
  rw [isNeg, hbit, isNeg]

theorem isZero_mod (w : Width) (n : Nat) : isZero w (n % 2 ^ w.bits) = isZero w n := by
  rw [isZero, Nat.mod_mod, isZero]

/-- N and Z depend on the low bits alone. -/
theorem nz_mod (w : Width) (n : Nat) : nz w (n % 2 ^ w.bits) = nz w n := by
  rw [nz, isNeg_mod, isZero_mod, nz]

theorem setNZ_eq_status_low (w : Width) (v : Word) (p : Byte) : setNZ w v p = status p (nz w (low w v)) := by
  rw [setNZ_eq_status, low, nz_mod]

/-- XBA's accumulator as a number (R172). -/
theorem swapBytes_toNat (v : Word) : (swapBytes v).toNat = v.toNat % 256 * 256 + v.toNat / 256 := by
  rw [swapBytes, wordOf_toNat, hiByte_toNat, loByte_toNat]
  omega

theorem swapBytes_eq_ofNat (v : Word) : swapBytes v = BitVec.ofNat 16 (v.toNat % 256 * 256 + v.toNat / 256) := by
  rw [← swapBytes_toNat, BitVec.ofNat_toNat, BitVec.setWidth_eq]

/-- The low byte after the exchange is the high byte before it. -/
theorem low_swapBytes (v : Word) : low .w8 (swapBytes v) = v.toNat / 256 := by
  have hv := v.isLt
  rw [low, swapBytes_toNat]
  simp only [Width.bits]
  omega

/-! The registers after a transfer, by its destination, and after XBA. -/

/-- `P` after `SetNZ(v, w)` (R9). -/
theorem State.flagsNZ_eq (s : State) (w : Width) (v : Word) :
    s.flagsNZ w v = { s with cpu := { s.cpu with p := status s.cpu.p (nz w v.toNat) } } := by
  rw [← setNZ_eq_status]
  rfl

theorem State.toX_eq (s : State) (v : Word) :
    s.toX v =
      { s with
        cpu :=
          { s.cpu with
            x := BitVec.ofNat 16 (low s.cpu.xw v)
            p := status s.cpu.p (nz s.cpu.xw (low s.cpu.xw v)) } } := by
  rw [ofNat_low, low, ← Width.mask_toNat, ← setNZ_eq_status]
  rfl

theorem State.toY_eq (s : State) (v : Word) :
    s.toY v =
      { s with
        cpu :=
          { s.cpu with
            y := BitVec.ofNat 16 (low s.cpu.xw v)
            p := status s.cpu.p (nz s.cpu.xw (low s.cpu.xw v)) } } := by
  rw [ofNat_low, low, ← Width.mask_toNat, ← setNZ_eq_status]
  rfl

theorem State.toA_eq (s : State) (v : Word) :
    s.toA v =
      { s with
        cpu :=
          { s.cpu with
            a := intoAcc s.cpu.mw s.cpu.a v.toNat
            p := status s.cpu.p (nz s.cpu.mw (low s.cpu.mw v)) } } := by
  rw [← Width.merge_eq_intoAcc, ← setNZ_eq_status_low]
  rfl

theorem State.toA16_eq (s : State) (v : Word) :
    s.toA16 v = { s with cpu := { s.cpu with a := v, p := status s.cpu.p (nz .w16 v.toNat) } } :=
  State.flagsNZ_eq _ _ _

theorem State.toS_eq (s : State) (v : Word) :
    s.toS v = { s with cpu := { s.cpu with s := if s.cpu.e then BitVec.ofNat 16 (256 + v.toNat % 256) else v } } := by
  rw [← stackPtr_eq_ofNat]
  rfl

/-- A with its bytes exchanged, N and Z of the new low byte, in every width (R172). -/
theorem execXba_eq (s : State) :
    execXba s = .next
      { s with
        cpu :=
          { s.cpu with
            a := BitVec.ofNat 16 (s.cpu.a.toNat % 256 * 256 + s.cpu.a.toNat / 256)
            p := status s.cpu.p (nz .w8 (s.cpu.a.toNat / 256)) } } := by
  rw [← swapBytes_eq_ofNat, ← low_swapBytes, ← setNZ_eq_status_low]
  rfl

/-- Settles O31: each transfer is one write to its destination, and the rule of that write gives the width, the pin and the flags. -/
theorem transferResult : Obligations.TransferResult := by
  refine ⟨?tax, ?tay, ?txa, ?tya, ?txy, ?tyx, ?tsx, ?txs, ?tcd, ?tdc, ?tcs, ?tsc⟩
  case tax => exact ⟨rfl, fun s => congrArg Host.Outcome.next (s.toX_eq s.cpu.a)⟩
  case tay => exact ⟨rfl, fun s => congrArg Host.Outcome.next (s.toY_eq s.cpu.a)⟩
  case txa => exact ⟨rfl, fun s => congrArg Host.Outcome.next (s.toA_eq s.cpu.x)⟩
  case tya => exact ⟨rfl, fun s => congrArg Host.Outcome.next (s.toA_eq s.cpu.y)⟩
  case txy => exact ⟨rfl, fun s => congrArg Host.Outcome.next ((s.setY s.cpu.x).flagsNZ_eq s.cpu.xw s.cpu.x)⟩
  case tyx => exact ⟨rfl, fun s => congrArg Host.Outcome.next ((s.setX s.cpu.y).flagsNZ_eq s.cpu.xw s.cpu.y)⟩
  case tsx => exact ⟨rfl, fun s => congrArg Host.Outcome.next (s.toX_eq s.cpu.s)⟩
  case txs => exact ⟨rfl, fun s => congrArg Host.Outcome.next (s.toS_eq s.cpu.x)⟩
  case tcd => exact ⟨rfl, fun s => congrArg Host.Outcome.next ((s.setD s.cpu.a).flagsNZ_eq .w16 s.cpu.a)⟩
  case tdc => exact ⟨rfl, fun s => congrArg Host.Outcome.next (s.toA16_eq s.cpu.d)⟩
  case tcs => exact ⟨rfl, fun s => congrArg Host.Outcome.next (s.toS_eq s.cpu.a)⟩
  case tsc => exact ⟨rfl, fun s => congrArg Host.Outcome.next (s.toA16_eq s.cpu.s)⟩

/-- Settles O32: the byte that N and Z are of, the new low one, is the old high one (`low_swapBytes`). -/
theorem xbaResult : Obligations.XbaResult := ⟨rfl, execXba_eq⟩

end Sys2Proof.Machine
end

section
/-! PROOFS. Binary addition and its flags, the arithmetic instructions in all their forms, and the read-modify-write forms of INC
and DEC (R180, R181, R184 to R195): settles O33 and O37 to O40. -/

namespace Sys2Proof.Machine

open Sys2Proof.Claims

/-! Binary addition (R181). -/

/-- The source's overflow formula on the sign bits. -/
theorem overflowOf_eq_isNeg (w : Width) (a b : Word) (r : Nat) :
    overflowOf w a b r = (isNeg w a.toNat == isNeg w b.toNat && (isNeg w a.toNat != isNeg w r)) := by
  have hr : r.testBit (w.bits - 1) = isNeg w r := by
    rw [isNeg, Nat.testBit_eq_decide_div_mod_eq]
    rfl
  rw [overflowOf, Width.msb_eq_isNeg, Width.msb_eq_isNeg, hr]
  cases isNeg w a.toNat <;> cases isNeg w b.toNat <;> rfl

theorem isNeg_eq_decide (w : Width) (n : Nat) : isNeg w n = decide (n / 2 ^ (w.bits - 1) % 2 = 1) := rfl

/-- A number with the sign bit set is `2^w` less as two's complement. -/
theorem signed_cases (w : Width) (n : Nat) :
    n / 2 ^ (w.bits - 1) % 2 = 1 ∧ signed w n = n - 2 ^ w.bits ∨ n / 2 ^ (w.bits - 1) % 2 = 0 ∧ signed w n = n := by
  obtain h | h := Nat.mod_two_eq_zero_or_one (n / 2 ^ (w.bits - 1)) <;> simp [signed, isNeg, h]

/-- The operands have one sign and the sum the other exactly when the signed sum does not fit (R181). -/
theorem overflow_iff_signed_sum_out_of_range (w : Width) {a b : Nat} (c : Bool) (ha : a < 2 ^ w.bits) (hb : b < 2 ^ w.bits) :
    (isNeg w a == isNeg w b && (isNeg w a != isNeg w (a + b + c.toNat))) = true ↔
      ¬(-(2 : Int) ^ (w.bits - 1) ≤ signed w a + signed w b + c.toNat ∧
        signed w a + signed w b + c.toNat < 2 ^ (w.bits - 1)) := by
  have hc := c.toNat_le
  simp only [Bool.and_eq_true, beq_iff_eq, bne_iff_ne, ne_eq, isNeg_eq_decide, decide_eq_decide]
  obtain ⟨hna, hsa⟩ | ⟨hna, hsa⟩ := signed_cases w a <;> obtain ⟨hnb, hsb⟩ | ⟨hnb, hsb⟩ := signed_cases w b <;>
    rw [hsa, hsb] <;> cases w <;> simp only [Width.bits] at ha hb hna hnb ⊢ <;> omega

/-- Settles O33: V's formula is the one of the sign bits, and that one says that the signed sum does not fit. -/
theorem binaryAdditionLaw : Obligations.BinaryAdditionLaw := by
  intro w a b c ha hb r
  have hv := overflowOf_eq_isNeg w a b r
  have hfits : r % 2 ^ w.bits < 2 ^ 16 := (Nat.mod_lt _ (by positivity)).trans_le (by cases w <;> decide)
  have hpos : 0 < 2 ^ w.bits := by positivity
  refine ⟨?_, decide_eq_decide.mpr ?_, hv, ?_⟩
  · rw [addBin, BitVec.toNat_ofNat, Nat.mod_eq_of_lt hfits]
  · show 2 ^ w.bits ≤ r ↔ r > 2 ^ w.bits - 1
    omega
  · rw [← overflow_iff_signed_sum_out_of_range w c ha hb, ← hv]
    rfl

/-! ADC and SBC (R184, R185). -/

/-- C and V from the sum, N and Z from its result (R184, R185). -/
theorem aluFlags_eq_status (w : Width) (out : AluOut) (p : Byte) :
    aluFlags w out p = status p
      { n := some (isNeg w out.r.toNat), v := some out.v, z := some (isZero w out.r.toNat), c := some out.c } := by
  refine byte_ext_flags fun f => ?_
  rw [aluFlags, flagGet_setNZ, flagGet_flagSet, flagGet_flagSet, flagGet_status, Width.msb_eq_isNeg, Width.mask_beq_zero]
  cases f <;> rfl

/-- A word cut to the width after it is complemented (R183, R185). -/
theorem Width.mask_not_toNat (w : Width) {v : Word} (hv : v.toNat < 2 ^ w.bits) :
    (w.mask (~~~v)).toNat = 2 ^ w.bits - 1 - v.toNat := by
  rw [Width.mask_toNat, BitVec.toNat_not]
  cases w <;> simp only [Width.bits] at hv ⊢ <;> omega

theorem Width.mask_not_eq_ofNat (w : Width) {v : Word} (hv : v.toNat < 2 ^ w.bits) :
    w.mask (~~~v) = BitVec.ofNat 16 (2 ^ w.bits - 1 - v.toNat) := by
  rw [← Width.mask_not_toNat w hv, BitVec.ofNat_toNat, BitVec.setWidth_eq]

/-- `P.D` chooses the sum of ADC (R184). -/
theorem adcOut_eq (w : Width) (p : Byte) (a op : Word) :
    adcOut w p a op = if bitOf p 3 then addDec w a op (bitOf p 0) else addBin w a op (bitOf p 0) := by
  rw [adcOut, flagGet_eq_bitOf, flagGet_eq_bitOf, Flag.bit, Flag.bit]

/-- `P.D` chooses the difference of SBC (R185). -/
theorem sbcOut_eq (w : Width) (p : Byte) (a : Word) {op : Word} (hop : op.toNat < 2 ^ w.bits) :
    sbcOut w p a op =
      if bitOf p 3 then subDec w a op (bitOf p 0)
      else addBin w a (BitVec.ofNat 16 (2 ^ w.bits - 1 - op.toNat)) (bitOf p 0) := by
  rw [sbcOut, flagGet_eq_bitOf, flagGet_eq_bitOf, Width.mask_not_eq_ofNat w hop, Flag.bit, Flag.bit]

theorem adcForms_run : FormsRun Operand.encoded adcForms adcOp := by
  intro o op i h
  unfold adcForms at h
  split at h <;> cases h <;> exact ⟨rfl, fun _ => rfl⟩

theorem sbcForms_run : FormsRun Operand.encoded sbcForms sbcOp := by
  intro o op i h
  unfold sbcForms at h
  split at h <;> cases h <;> exact ⟨rfl, fun _ => rfl⟩

/-- Settles O37: the sum is the one that `P.D` chooses (`adcOut_eq`, `sbcOut_eq`), on the accumulator cut to `mw`. -/
theorem adcSbcResult : Obligations.AdcSbcResult := by
  constructor
  · refine loadsOperand_of_formsRun adcForms_run fun s o => ?_
    simp only [ofNat_low, BitVec.ofNat_toNat, BitVec.setWidth_eq, ← aluFlags_eq_status, ← Width.merge_eq_intoAcc, ← adcOut_eq]
    rfl
  · refine loadsOperand_of_formsRun sbcForms_run fun s o => ?_
    simp only [ofNat_low, BitVec.ofNat_toNat, BitVec.setWidth_eq, ← aluFlags_eq_status, ← Width.merge_eq_intoAcc,
      ← sbcOut_eq _ _ _ (o.load_lt _ _ _)]
    rfl

/-! Compare (R186 to R189). -/

/-- `Compare(reg, op, w)` on numbers of the width (R186). -/
theorem compareFlags_eq_status (w : Width) {reg op : Word} (p : Byte) (hreg : reg.toNat < 2 ^ w.bits)
    (hop : op.toNat < 2 ^ w.bits) :
    compareFlags w reg op p = status p
      { n := some (isNeg w ((reg.toNat + 2 ^ w.bits - op.toNat) % 2 ^ w.bits)), z := some (decide (reg.toNat = op.toNat)),
        c := some (decide (op.toNat ≤ reg.toNat)) } := by
  have hdiff : (w.mask (reg - op)).toNat = (reg.toNat + 2 ^ w.bits - op.toNat) % 2 ^ w.bits := by
    rw [Width.mask_toNat, BitVec.toNat_sub]
    cases w <;> simp only [Width.bits] at hreg hop ⊢ <;> omega
  have hzero : isZero w ((reg.toNat + 2 ^ w.bits - op.toNat) % 2 ^ w.bits) = decide (reg.toNat = op.toNat) := by
    rw [isZero, Bool.eq_iff_iff, beq_iff_eq, decide_eq_true_iff]
    cases w <;> simp only [Width.bits] at hreg hop ⊢ <;> omega
  refine byte_ext_flags fun f => ?_
  rw [compareFlags, flagGet_setNZ, flagGet_flagSet, flagGet_status, Width.msb_eq_isNeg, Width.mask_beq_zero, hdiff, hzero]
  cases f <;> rfl

/-- A compare changes the flags and the Bus alone (R186). -/
theorem compareOp_eq (s : State) (w : Width) (reg : Word) (o : Operand) :
    compareOp s w reg o =
      { s with
        cpu :=
          { s.cpu with
            p := status s.cpu.p
              { n := some (isNeg w ((low w reg + 2 ^ w.bits - (o.load w s.cpu s.bus).1.toNat) % 2 ^ w.bits))
                z := some (decide (low w reg = (o.load w s.cpu s.bus).1.toNat))
                c := some (decide ((o.load w s.cpu s.bus).1.toNat ≤ low w reg)) } }
        bus := (o.load w s.cpu s.bus).2 } := by
  rw [low, ← Width.mask_toNat, ← compareFlags_eq_status w _ (Width.mask_lt w reg) (o.load_lt _ _ _)]
  rfl

theorem cmpForms_run : FormsRun Operand.encoded cmpForms cmpOp := by
  intro o op i h
  unfold cmpForms at h
  split at h <;> cases h <;> exact ⟨rfl, fun _ => rfl⟩

theorem cpxForms_run : FormsRun Operand.encoded cpxForms cpxOp := by
  intro o op i h
  unfold cpxForms at h
  split at h <;> cases h <;> exact ⟨rfl, fun _ => rfl⟩

theorem cpyForms_run : FormsRun Operand.encoded cpyForms cpyOp := by
  intro o op i h
  unfold cpyForms at h
  split at h <;> cases h <;> exact ⟨rfl, fun _ => rfl⟩

/-- Settles O38: the three are one compare (`compareOp_eq`) of their register at its width. -/
theorem compareResult : Obligations.CompareResult :=
  ⟨loadsOperand_of_formsRun cmpForms_run fun s => compareOp_eq s s.cpu.mw s.cpu.a,
    loadsOperand_of_formsRun cpxForms_run fun s => compareOp_eq s s.cpu.xw s.cpu.x,
    loadsOperand_of_formsRun cpyForms_run fun s => compareOp_eq s s.cpu.xw s.cpu.y⟩

/-! Read-modify-write (R64, R116). -/

/-- What `MemRead(a, w/8)` gives is the word that the Bus reads at the width (R61). -/
theorem leRead_eq_readW (b : Bus) (w : Width) (a : Addr) :
    leRead (bytesOf w) (a.toNat / 65536) (a.toNat % 65536) b = ((b.readW w a).1.toNat, (b.readW w a).2) := by
  rw [Bus.readW_eq_leRead, BitVec.toNat_ofNat, Nat.mod_eq_of_lt (leRead_lt w _ _ _)]

/-- The bytes of a read-modify-write operand as the encoder writes them (R91, R116). -/
def RmwOperand.encoded : RmwOperand → List Byte
  | .acc => []
  | .mem m => m.encoded

theorem rmwBytes_eq_encoded (o : RmwOperand) : rmwBytes o = o.encoded := by
  cases o with
  | acc => rfl
  | mem m => exact modeBytes_eq_encoded m

/-- A read-modify-write that computes the number `f` and writes the flags `g` is `afterRmw`. -/
theorem State.rmw_eq_afterRmw {out : Cpu → Width → Word → Byte → RmwOut} {f : Width → Cpu → Nat → Nat}
    {g : Width → Cpu → Nat → FlagWrites}
    (hvalue : ∀ c w v, v.toNat < 2 ^ w.bits → (out c w v c.p).1.toNat = f w c v.toNat)
    (hflags : ∀ c w v, v.toNat < 2 ^ w.bits → (out c w v c.p).2 = status c.p (g w c v.toNat)) (s : State) (o : RmwOperand) :
    s.rmw (out s.cpu) o = afterRmw f g s o := by
  cases o with
  | acc =>
    have hlt : s.accOperand.toNat < 2 ^ s.cpu.mw.bits := Width.mask_lt _ _
    have hlow : low s.cpu.mw s.cpu.a = s.accOperand.toNat := (Width.mask_toNat _ _).symm
    rw [afterRmw, hlow, ← hvalue _ _ _ hlt, ← hflags _ _ _ hlt, ← Width.merge_eq_intoAcc]
    rfl
  | mem m =>
    have hlt := (m.ea s.cpu s.bus).2.readW_lt s.cpu.mw (m.ea s.cpu s.bus).1
    simp only [afterRmw, leRead_eq_readW]
    rw [← hvalue _ _ _ hlt, ← hflags _ _ _ hlt, ← Bus.writeW_eq_storeAt]
    rfl

/-- Only the cells of the operand change (R64). -/
theorem afterRmw_onlyCells (f : Width → Cpu → Nat → Nat) (g : Width → Cpu → Nat → FlagWrites) (s : State) (o : RmwOperand) :
    OnlyCells (rmwStored s o) s.bus (afterRmw f g s o).bus := by
  cases o with
  | acc => exact sameBytes_onlyCells (fun _ => rfl) _
  | mem m =>
    have hread : SameBytes s.bus (leRead (bytesOf s.cpu.mw) ((m.ea s.cpu s.bus).1.toNat / 65536)
        ((m.ea s.cpu s.bus).1.toNat % 65536) (m.ea s.cpu s.bus).2).2 := fun k => by
      rw [leRead_eq_readW, Bus.readW_mem, MemMode.ea_mem]
    refine onlyCells_trans (sameBytes_onlyCells hread []) (storeAt_onlyCells _ _ _ _) ?_
    rw [leRead_eq_readW, Bus.readW_params, MemMode.ea_params]

/-- An instruction modifies its operand when its meaning is a read-modify-write of that number and those flags. -/
theorem modifiesOperand_of_formsRun {forms : RmwOperand → Option (Byte × Instr)} {run : State → RmwOperand → State}
    {out : Cpu → Width → Word → Byte → RmwOut} {f : Width → Cpu → Nat → Nat} {g : Width → Cpu → Nat → FlagWrites}
    (hforms : FormsRun RmwOperand.encoded forms run) (hrun : ∀ s o, run s o = s.rmw (out s.cpu) o)
    (hvalue : ∀ c w v, v.toNat < 2 ^ w.bits → (out c w v c.p).1.toNat = f w c v.toNat)
    (hflags : ∀ c w v, v.toNat < 2 ^ w.bits → (out c w v c.p).2 = status c.p (g w c v.toNat)) :
    ModifiesOperand forms f g := by
  intro o op i s h
  obtain ⟨henc, hexec⟩ := hforms o op i h
  exact ⟨by rw [henc, rmwBytes_eq_encoded], by rw [hexec, hrun, State.rmw_eq_afterRmw hvalue hflags], afterRmw_onlyCells f g s o⟩

/-! INC, DEC, INX, INY, DEX and DEY (R190 to R195). -/

/-- One more modulo the width (R190). -/
theorem Width.mask_add_one_toNat (w : Width) (v : Word) : (w.mask (v + 1)).toNat = (v.toNat + 1) % 2 ^ w.bits := by
  rw [Width.mask_toNat, BitVec.toNat_add]
  cases w <;> simp only [Width.bits, BitVec.reduceToNat] <;> omega

/-- One less modulo the width (R191). -/
theorem Width.mask_sub_one_toNat (w : Width) (v : Word) :
    (w.mask (v - 1)).toNat = (v.toNat + 2 ^ w.bits - 1) % 2 ^ w.bits := by
  rw [Width.mask_toNat, BitVec.toNat_sub]
  cases w <;> simp only [Width.bits, BitVec.reduceToNat] <;> omega

theorem incForms_run : FormsRun RmwOperand.encoded incForms incOp := by
  intro o op i h
  unfold incForms at h
  split at h <;> cases h <;> exact ⟨rfl, fun _ => rfl⟩

theorem decForms_run : FormsRun RmwOperand.encoded decForms decOp := by
  intro o op i h
  unfold decForms at h
  split at h <;> cases h <;> exact ⟨rfl, fun _ => rfl⟩

/-- Settles O39: the read-modify-write of one more and of one less; N and Z depend on the low bits alone (`nz_mod`). -/
theorem incDecResult : Obligations.IncDecResult := by
  constructor
  · refine modifiesOperand_of_formsRun (out := fun _ => incOut) incForms_run (fun _ _ => rfl)
      (fun _ w v _ => Width.mask_add_one_toNat w v) fun _ w v _ => ?_
    rw [incOut, setNZ_eq_status, Width.mask_add_one_toNat, nz_mod]
  · refine modifiesOperand_of_formsRun (out := fun _ => decOut) decForms_run (fun _ _ => rfl)
      (fun _ w v _ => Width.mask_sub_one_toNat w v) fun _ w v _ => ?_
    rw [decOut, setNZ_eq_status, Width.mask_sub_one_toNat, nz_mod]

/-- The two index registers step alike: the word written and N and Z of it (R192 to R195). -/
theorem stepX_eq (s : State) (delta : Word) {n : Nat} (hn : (s.cpu.xw.mask (s.cpu.x + delta)).toNat = n) :
    stepX s delta = { s with cpu := { s.cpu with x := BitVec.ofNat 16 n, p := status s.cpu.p (nz s.cpu.xw n) } } := by
  subst hn
  rw [BitVec.ofNat_toNat, BitVec.setWidth_eq, ← setNZ_eq_status]
  rfl

theorem stepY_eq (s : State) (delta : Word) {n : Nat} (hn : (s.cpu.xw.mask (s.cpu.y + delta)).toNat = n) :
    stepY s delta = { s with cpu := { s.cpu with y := BitVec.ofNat 16 n, p := status s.cpu.p (nz s.cpu.xw n) } } := by
  subst hn
  rw [BitVec.ofNat_toNat, BitVec.setWidth_eq, ← setNZ_eq_status]
  rfl

/-- Settles O40: the index registers step by one up or, adding minus one, down. -/
theorem indexStepResult : Obligations.IndexStepResult := by
  have hup (w : Width) (v : Word) := Width.mask_add_one_toNat w v
  have hdown (w : Width) (v : Word) : (w.mask (v + -1)).toNat = (v.toNat + 2 ^ w.bits - 1) % 2 ^ w.bits := by
    rw [← BitVec.sub_eq_add_neg, Width.mask_sub_one_toNat]
  exact ⟨⟨rfl, fun s => congrArg Host.Outcome.next (stepX_eq s 1 (hup _ _))⟩,
    ⟨rfl, fun s => congrArg Host.Outcome.next (stepY_eq s 1 (hup _ _))⟩,
    ⟨rfl, fun s => congrArg Host.Outcome.next (stepX_eq s (-1) (hdown _ _))⟩,
    ⟨rfl, fun s => congrArg Host.Outcome.next (stepY_eq s (-1) (hdown _ _))⟩⟩

end Sys2Proof.Machine
end

section
/-! PROOFS. The decimal algorithms digit by digit, and what they compute on decimal digits (R182, R183): settles O34, O35 and
O36. -/

namespace Sys2Proof.Machine

open Sys2Proof.Claims

/-! Both algorithms as one recursion over the nibbles, lowest first: they differ in what a digit sum gives. -/

/-- The digit and the carry of an addition's digit sum: above 9 it is corrected by 6 (R182). -/
def addDigit (sum : Nat) : Nat × Bool :=
  ((if 9 < sum then sum + 6 else sum) % 16, decide (15 < if 9 < sum then sum + 6 else sum))

/-- The digit and the carry of a subtraction's digit sum: one that gives no carry is corrected by 6 downward (R183). -/
def subDigit (sum : Nat) : Nat × Bool :=
  ((if sum ≤ 15 then sum + 16 - 6 else sum) % 16, decide (15 < sum))

/-- The lowest `n` nibbles summed with a rule for the digit sum: the result, the carry and V of the top digit. -/
def sumNibbles (digit : Nat → Nat × Bool) : Nat → Nat → Nat → Bool → Nat × Bool × Bool
  | 0, _, _, c => (0, c, false)
  | n + 1, a, b, c =>
    let sum := a % 16 + b % 16 + c.toNat
    let rest := sumNibbles digit n (a / 16) (b / 16) (digit sum).2
    ((digit sum).1 + 16 * rest.1, rest.2.1, if n = 0 then nibbleV (a % 16) (b % 16) sum else rest.2.2)

theorem addNibbles_succ (n a b : Nat) (c : Bool) :
    addNibbles (n + 1) a b c =
      let sum := a % 16 + b % 16 + c.toNat
      let rest := addNibbles n (a / 16) (b / 16) (addDigit sum).2
      ((addDigit sum).1 + 16 * rest.1, rest.2.1, if n = 0 then nibbleV (a % 16) (b % 16) sum else rest.2.2) := rfl

theorem subNibbles_succ (n a b : Nat) (c : Bool) :
    subNibbles (n + 1) a b c =
      let sum := a % 16 + (15 - b % 16) + c.toNat
      let rest := subNibbles n (a / 16) (b / 16) (subDigit sum).2
      ((subDigit sum).1 + 16 * rest.1, rest.2.1, if n = 0 then nibbleV (a % 16) (15 - b % 16) sum else rest.2.2) := rfl

theorem addNibbles_eq_sumNibbles (n a b : Nat) (c : Bool) : addNibbles n a b c = sumNibbles addDigit n a b c := by
  induction n generalizing a b c with
  | zero => rfl
  | succ n ih => simp only [addNibbles_succ, sumNibbles, ih]

/-- Subtraction is the sum with the complement of the nibbles. -/
theorem subNibbles_eq_sumNibbles (n a : Nat) {b : Nat} (c : Bool) (hb : b < 16 ^ n) :
    subNibbles n a b c = sumNibbles subDigit n a (16 ^ n - 1 - b) c := by
  induction n generalizing a b c with
  | zero => rfl
  | succ n ih =>
    rw [pow_succ] at hb
    have hlow : (16 ^ (n + 1) - 1 - b) % 16 = 15 - b % 16 := by rw [pow_succ]; omega
    have hhigh : (16 ^ (n + 1) - 1 - b) / 16 = 16 ^ n - 1 - b / 16 := by rw [pow_succ]; omega
    simp only [subNibbles_succ, sumNibbles, hlow, hhigh, ih _ _ (show b / 16 < 16 ^ n by omega)]

/-! One round of the model's algorithms. -/

/-- Digit `k` of a number. -/
def nibble (n k : Nat) : Nat := n / 2 ^ (4 * k) % 16

/-- The sum of digit `k` of two numbers and the carry of the rounds before. -/
def nibbleSum (a b : Word) (acc : DecAcc) (k : Nat) : Nat := nibble a.toNat k + nibble b.toNat k + acc.cy.toNat

/-- A round of a decimal algorithm with a rule for the digit sum: the digit is put above the digits so far, the only part of
the running result that counts; V is sampled at the uncorrected sum. -/
structure IsRound (w : Width) (a b : Word) (digit : Nat → Nat × Bool) (round : DecAcc → Nat → DecAcc) : Prop where
  r : ∀ acc k, (round acc k).r % 2 ^ (4 * k + 4) = acc.r % 2 ^ (4 * k) + 2 ^ (4 * k) * (digit (nibbleSum a b acc k)).1
  cy : ∀ acc k, (round acc k).cy = (digit (nibbleSum a b acc k)).2
  v : ∀ acc k, (round acc k).v =
    if 4 * k + 4 = w.bits then nibbleV (nibble a.toNat k) (nibble b.toNat k) (nibbleSum a b acc k) else acc.v

/-- The digits so far. -/
theorem DecAcc.low_bounds (acc : DecAcc) (k : Nat) : 0 ≤ acc.r % 2 ^ (4 * k) ∧ acc.r % 2 ^ (4 * k) < 2 ^ (4 * k) :=
  ⟨Int.emod_nonneg _ (by positivity), Int.emod_lt_of_pos _ (by positivity)⟩

/-- The sum of a round stands above the digits so far. -/
theorem digitSum_eq (a b : Word) (acc : DecAcc) (k : Nat) :
    (digitSum a b acc (4 * k) : Int) = nibbleSum a b acc k * 2 ^ (4 * k) + acc.r % 2 ^ (4 * k) := by
  simp only [digitSum, digitAt, nibbleSum, nibble]
  push_cast [Int.toNat_of_nonneg (acc.low_bounds k).1]
  ring

theorem mul_add_ediv_self {base low : Int} (d : Int) (hnonneg : 0 ≤ low) (hlt : low < base) :
    (d * base + low) / base = d := by
  rw [add_comm, Int.add_mul_ediv_right _ _ (by omega), Int.ediv_eq_zero_of_lt hnonneg hlt, zero_add]

theorem digitSum_div (a b : Word) (acc : DecAcc) (k : Nat) :
    digitSum a b acc (4 * k) / 2 ^ (4 * k) = nibbleSum a b acc k := by
  obtain ⟨hnonneg, hlt⟩ := acc.low_bounds k
  zify
  rw [digitSum_eq, mul_add_ediv_self _ hnonneg hlt]

/-- A round's sum reaches a multiple of the digit's place when the digit sum reaches the factor. -/
theorem le_nibbleSum_iff (a b : Word) (acc : DecAcc) (k n : Nat) :
    n ≤ nibbleSum a b acc k ↔ n * 2 ^ (4 * k) ≤ digitSum a b acc (4 * k) := by
  rw [← digitSum_div, Nat.le_div_iff_mul_le (by positivity)]

/-- Of a number above lower digits, its lowest digit is left modulo sixteen times their base. -/
theorem mul_add_emod_mul_sixteen {base low : Int} (d : Int) (hnonneg : 0 ≤ low) (hlt : low < base) :
    (d * base + low) % (base * 16) = low + base * (d % 16) := by
  have hsplit : d * base + low = low + base * (d % 16) + base * 16 * (d / 16) := by
    linear_combination base * (Int.emod_add_mul_ediv d 16).symm
  have hd := Int.emod_nonneg d (show (16 : Int) ≠ 0 by decide)
  have hd' := Int.emod_lt_of_pos d (show (0 : Int) < 16 by decide)
  rw [hsplit, Int.add_mul_emod_self_left]
  exact Int.emod_eq_of_lt (by nlinarith) (by nlinarith)

/-- The sign bit of a number is the top bit of its top digit. -/
theorem isNeg_eq_top_digit {w : Width} {k : Nat} (hk : 4 * k + 4 = w.bits) (n : Nat) :
    isNeg w n = (n / 2 ^ (4 * k) / 8 % 2 == 1) := by
  rw [isNeg, ← hk, Nat.div_div_eq_div_mul, show 4 * k + 4 - 1 = 4 * k + 3 from rfl, pow_add]
  rfl

/-- V of the top round is V of its nibbles (D19). -/
theorem digitV_digitSum (w : Width) (a b : Word) (acc : DecAcc) (k : Nat) :
    digitV w a b acc k (digitSum a b acc (4 * k)) =
      if 4 * k + 4 = w.bits then nibbleV (nibble a.toNat k) (nibble b.toNat k) (nibbleSum a b acc k) else acc.v := by
  unfold digitV
  split
  case isFalse => rfl
  case isTrue hk =>
    have hbit (n : Nat) : n % 16 / 8 % 2 = n / 8 % 2 := by omega
    rw [overflowOf_eq_isNeg, isNeg_eq_top_digit hk, isNeg_eq_top_digit hk, isNeg_eq_top_digit hk, digitSum_div, nibbleV,
      nibble, nibble, hbit, hbit]
    obtain ha | ha := Nat.mod_two_eq_zero_or_one (a.toNat / 2 ^ (4 * k) / 8) <;>
      obtain hb | hb := Nat.mod_two_eq_zero_or_one (b.toNat / 2 ^ (4 * k) / 8) <;>
      obtain hr | hr := Nat.mod_two_eq_zero_or_one (nibbleSum a b acc k / 8) <;> rw [ha, hb, hr] <;> rfl

/-- A round is one by what its sum is corrected to: the digit is that number modulo 16, the carry says that it is above 15. -/
theorem isRound_of_fixed {w : Width} {a b : Word} {digit : Nat → Nat × Bool} {round : DecAcc → Nat → DecAcc}
    (fixed : Nat → Int) (hdigit : ∀ sum, ((digit sum).1 : Int) = fixed sum % 16)
    (hcarry : ∀ sum, (digit sum).2 = decide (16 ≤ fixed sum))
    (hr : ∀ acc k, (round acc k).r = fixed (nibbleSum a b acc k) * 2 ^ (4 * k) + acc.r % 2 ^ (4 * k))
    (hcy : ∀ acc k, (round acc k).cy = decide (2 ^ (4 * k + 4) - 1 < (round acc k).r))
    (hv : ∀ acc k, (round acc k).v = digitV w a b acc k (digitSum a b acc (4 * k))) : IsRound w a b digit round where
  r acc k := by
    obtain ⟨hnonneg, hlt⟩ := acc.low_bounds k
    rw [hr, hdigit, pow_add]
    exact mul_add_emod_mul_sixteen _ hnonneg hlt
  cy acc k := by
    obtain ⟨hnonneg, hlt⟩ := acc.low_bounds k
    have hpos : (0 : Int) < 2 ^ (4 * k) := by positivity
    rw [hcy, hr, hcarry, decide_eq_decide, Int.sub_one_lt_iff, pow_add, mul_comm (2 ^ (4 * k)),
      ← Int.le_ediv_iff_mul_le hpos, mul_add_ediv_self _ hnonneg hlt]
    rfl
  v acc k := (hv acc k).trans (digitV_digitSum w a b acc k)

theorem addDecDigit_isRound (w : Width) (a b : Word) : IsRound w a b addDigit (addDecDigit w a b) := by
  refine isRound_of_fixed (fun sum => if 9 < sum then sum + 6 else sum) (fun sum => ?_) (fun sum => ?_) (fun acc k => ?_)
    (fun _ _ => rfl) fun _ _ => rfl
  · simp only [addDigit]; split <;> push_cast <;> rfl
  · simp only [addDigit]; split <;> simp only [decide_eq_decide] <;> omega
  · have hpos : 0 < 2 ^ (4 * k) := by positivity
    have hreach := le_nibbleSum_iff a b acc k 10
    have habove : 0xA * 2 ^ (4 * k) - 1 < digitSum a b acc (4 * k) ↔ 9 < nibbleSum a b acc k := by omega
    simp only [addDecDigit, habove, digitSum_eq]
    split
    · ring
    · rfl

theorem subDecDigit_isRound (w : Width) (a b : Word) : IsRound w a b subDigit (subDecDigit w a b) := by
  refine isRound_of_fixed (fun sum => if sum ≤ 15 then sum - 6 else sum) (fun sum => ?_) (fun sum => ?_) (fun acc k => ?_)
    (fun _ _ => rfl) fun _ _ => rfl
  · simp only [subDigit]; split <;> omega
  · simp only [subDigit]; split <;> simp only [decide_eq_decide] <;> omega
  · have hpos : 0 < 2 ^ (4 * k) := by positivity
    have hreach := le_nibbleSum_iff a b acc k 16
    have hno : digitSum a b acc (4 * k) ≤ 2 ^ (4 * k + 4) - 1 ↔ nibbleSum a b acc k ≤ 15 := by
      rw [pow_add]; omega
    simp only [subDecDigit, hno, digitSum_eq]
    split
    · ring
    · rfl

/-! All rounds. -/

/-- The nibbles from digit `k` on are digit `k` and the nibbles from the next digit on. -/
theorem sumNibbles_from (digit : Nat → Nat × Bool) (n : Nat) (a b : Word) (acc : DecAcc) (k : Nat) :
    sumNibbles digit (n + 1) (a.toNat / 2 ^ (4 * k)) (b.toNat / 2 ^ (4 * k)) acc.cy =
      let sum := nibbleSum a b acc k
      let rest := sumNibbles digit n (a.toNat / 2 ^ (4 * (k + 1))) (b.toNat / 2 ^ (4 * (k + 1))) (digit sum).2
      ((digit sum).1 + 16 * rest.1, rest.2.1,
        if n = 0 then nibbleV (nibble a.toNat k) (nibble b.toNat k) sum else rest.2.2) := by
  have hnext (m : Nat) : m / 2 ^ (4 * (k + 1)) = m / 2 ^ (4 * k) / 16 := by
    rw [Nat.div_div_eq_div_mul, Nat.mul_add, pow_add]
    rfl
  rw [hnext, hnext]
  rfl

/-- The rounds from digit `k` on put the sum of the nibbles from there on above the digits so far. -/
theorem IsRound.foldl_range' {w : Width} {a b : Word} {digit : Nat → Nat × Bool} {round : DecAcc → Nat → DecAcc}
    (h : IsRound w a b digit round) (acc : DecAcc) {k n : Nat} (hn : 4 * (k + n) = w.bits) :
    let d := sumNibbles digit n (a.toNat / 2 ^ (4 * k)) (b.toNat / 2 ^ (4 * k)) acc.cy
    let out := (List.range' k n).foldl round acc
    out.r % 2 ^ w.bits = acc.r % 2 ^ (4 * k) + 2 ^ (4 * k) * d.1 ∧ out.cy = d.2.1 ∧
      out.v = if n = 0 then acc.v else d.2.2 := by
  induction n generalizing acc k with
  | zero =>
    rw [← hn]
    simp [sumNibbles]
  | succ n ih =>
    have htop : 4 * k + 4 = w.bits ↔ n = 0 := by omega
    obtain ⟨hr, hcy, hv⟩ := ih (round acc k) (k := k + 1) (by omega)
    rw [h.cy] at hr hcy hv
    rw [sumNibbles_from, List.range'_succ, List.foldl_cons]
    refine ⟨?_, hcy, ?_⟩
    · rw [hr, Nat.mul_add, h.r]
      push_cast
      ring
    · rw [hv, h.v]
      simp only [htop, if_neg (Nat.succ_ne_zero n)]
      split <;> rfl

theorem Width.bits_eq (w : Width) : w.bits = 4 * digitsOf w := by cases w <;> rfl

theorem Width.two_pow_bits (w : Width) : 2 ^ w.bits = 16 ^ digitsOf w := by
  rw [Width.bits_eq, pow_mul]
  rfl

/-- A decimal algorithm's result, carry and V are those of its sum of nibbles. -/
theorem IsRound.out_foldl_digits {w : Width} {a b : Word} {digit : Nat → Nat × Bool} {round : DecAcc → Nat → DecAcc}
    (h : IsRound w a b digit round) (c : Bool) :
    ((Width.digits w).foldl round { r := 0, cy := c, v := false }).out w =
      { r := BitVec.ofNat 16 (sumNibbles digit (digitsOf w) a.toNat b.toNat c).1
        c := (sumNibbles digit (digitsOf w) a.toNat b.toNat c).2.1
        v := (sumNibbles digit (digitsOf w) a.toNat b.toNat c).2.2 } := by
  have hdigits : Width.digits w = List.range' 0 (digitsOf w) := by cases w <;> rfl
  have hne : digitsOf w ≠ 0 := by cases w <;> decide
  obtain ⟨hr, hcy, hv⟩ := h.foldl_range' { r := 0, cy := c, v := false } (k := 0) (n := digitsOf w)
    (by rw [Nat.zero_add, Width.bits_eq])
  rw [hdigits, DecAcc.out, hr, hcy, hv, if_neg hne]
  simp

theorem addDec_eq_addNibbles (w : Width) (a b : Word) (c : Bool) :
    addDec w a b c =
      { r := BitVec.ofNat 16 (addNibbles (digitsOf w) a.toNat b.toNat c).1
        c := (addNibbles (digitsOf w) a.toNat b.toNat c).2.1
        v := (addNibbles (digitsOf w) a.toNat b.toNat c).2.2 } := by
  rw [addNibbles_eq_sumNibbles]
  exact (addDecDigit_isRound w a b).out_foldl_digits c

theorem subDec_eq_subNibbles (w : Width) (a : Word) {b : Word} (c : Bool) (hb : b.toNat < 2 ^ w.bits) :
    subDec w a b c =
      { r := BitVec.ofNat 16 (subNibbles (digitsOf w) a.toNat b.toNat c).1
        c := (subNibbles (digitsOf w) a.toNat b.toNat c).2.1
        v := (subNibbles (digitsOf w) a.toNat b.toNat c).2.2 } := by
  rw [subNibbles_eq_sumNibbles _ _ _ (Width.two_pow_bits w ▸ hb), ← Width.two_pow_bits, ← Width.mask_not_toNat w hb]
  exact (subDecDigit_isRound w a _).out_foldl_digits c

/-- Settles O34: the model's rounds are the recursion over the nibbles, for subtraction on the complemented operand. -/
theorem decimalCorrectionPerNibble : Obligations.DecimalCorrectionPerNibble := fun w a b c _ hb =>
  ⟨addDec_eq_addNibbles w a b c, subDec_eq_subNibbles w a c hb⟩

/-! On decimal digits (R182, R183). -/

theorem isBcd_succ {n v : Nat} : isBcd (n + 1) v = true ↔ v % 16 ≤ 9 ∧ isBcd n (v / 16) = true := by
  rw [isBcd, Bool.and_eq_true, decide_eq_true_eq]

theorem bcdValue_lt {n v : Nat} (h : isBcd n v = true) : bcdValue n v < 10 ^ n := by
  induction n generalizing v with
  | zero => exact Nat.one_pos
  | succ n ih =>
    obtain ⟨hdigit, hrest⟩ := isBcd_succ.mp h
    have hvalue := ih hrest
    rw [bcdValue, pow_succ]
    omega

/-- A decimal digit in front of decimal digits, lowest first. -/
theorem bcd_digit_above {n d rest : Nat} (hd : d ≤ 9) (hlt : rest < 16 ^ n) (hrest : isBcd n rest = true) :
    d + 16 * rest < 16 ^ (n + 1) ∧ isBcd (n + 1) (d + 16 * rest) = true ∧
      bcdValue (n + 1) (d + 16 * rest) = d + 10 * bcdValue n rest := by
  have hmod : (d + 16 * rest) % 16 = d := by omega
  have hdiv : (d + 16 * rest) / 16 = rest := by omega
  refine ⟨by rw [pow_succ]; omega, isBcd_succ.mpr ?_, by rw [bcdValue, hmod, hdiv]⟩
  rw [hmod, hdiv]
  exact ⟨hd, hrest⟩

/-- The corrected sum of two decimal digits and a carry: a decimal digit, and a carry that counts ten. -/
theorem addDigit_of_decimal {sum : Nat} (h : sum ≤ 19) :
    (addDigit sum).1 ≤ 9 ∧ (addDigit sum).1 + 10 * (addDigit sum).2.toNat = sum := by
  interval_cases sum <;> decide

/-- The corrected sum with a complemented decimal digit: it is six too high for a digit (R183). -/
theorem subDigit_of_decimal {sum : Nat} (hlow : 6 ≤ sum) (hhigh : sum ≤ 25) :
    (subDigit sum).1 ≤ 9 ∧ (subDigit sum).1 + 10 * (subDigit sum).2.toNat + 6 = sum := by
  interval_cases sum <;> decide

/-- Adding decimal digits gives decimal digits, and they and the carry out, which counts `10^n`, are the sum. -/
theorem addNibbles_of_isBcd {n a b : Nat} (c : Bool) (ha : isBcd n a = true) (hb : isBcd n b = true) :
    (addNibbles n a b c).1 < 16 ^ n ∧ isBcd n (addNibbles n a b c).1 = true ∧
      bcdValue n (addNibbles n a b c).1 + 10 ^ n * (addNibbles n a b c).2.1.toNat =
        bcdValue n a + bcdValue n b + c.toNat := by
  induction n generalizing a b c with
  | zero => simp [addNibbles, isBcd, bcdValue]
  | succ n ih =>
    obtain ⟨hx, ha⟩ := isBcd_succ.mp ha
    obtain ⟨hy, hb⟩ := isBcd_succ.mp hb
    have hc := c.toNat_le
    obtain ⟨hdigit, hsum⟩ := addDigit_of_decimal (show a % 16 + b % 16 + c.toNat ≤ 19 by omega)
    obtain ⟨hlt, hbcd, hvalue⟩ := ih (addDigit (a % 16 + b % 16 + c.toNat)).2 ha hb
    obtain ⟨hlt', hbcd', hvalue'⟩ := bcd_digit_above hdigit hlt hbcd
    rw [addNibbles_succ]
    refine ⟨hlt', hbcd', ?_⟩
    dsimp only
    rw [hvalue', bcdValue, bcdValue, pow_succ, mul_right_comm]
    omega

/-- Subtracting decimal digits gives decimal digits, and they are the difference less the borrow, `10^n` more when nothing comes
out. -/
theorem subNibbles_of_isBcd {n a b : Nat} (c : Bool) (ha : isBcd n a = true) (hb : isBcd n b = true) :
    (subNibbles n a b c).1 < 16 ^ n ∧ isBcd n (subNibbles n a b c).1 = true ∧
      bcdValue n (subNibbles n a b c).1 + 10 ^ n * (subNibbles n a b c).2.1.toNat + bcdValue n b + 1 =
        bcdValue n a + c.toNat + 10 ^ n := by
  induction n generalizing a b c with
  | zero => cases c <;> simp [subNibbles, isBcd, bcdValue]
  | succ n ih =>
    obtain ⟨hx, ha⟩ := isBcd_succ.mp ha
    obtain ⟨hy, hb⟩ := isBcd_succ.mp hb
    have hc := c.toNat_le
    obtain ⟨hdigit, hsum⟩ := subDigit_of_decimal (sum := a % 16 + (15 - b % 16) + c.toNat) (by omega) (by omega)
    obtain ⟨hlt, hbcd, hvalue⟩ := ih (subDigit (a % 16 + (15 - b % 16) + c.toNat)).2 ha hb
    obtain ⟨hlt', hbcd', hvalue'⟩ := bcd_digit_above hdigit hlt hbcd
    rw [subNibbles_succ]
    refine ⟨hlt', hbcd', ?_⟩
    dsimp only
    rw [hvalue', bcdValue, bcdValue, pow_succ, mul_right_comm]
    omega

/-- A number below the modulus and a carry that counts it are the remainder and the overflow. -/
theorem mod_and_carry_of_add_mul {m value sum : Nat} {carry : Bool} (hlt : value < m)
    (h : value + m * carry.toNat = sum) : value = sum % m ∧ carry = decide (m ≤ sum) := by
  subst h
  cases carry with
  | false => simpa [Nat.mod_eq_of_lt hlt] using hlt
  | true => simp [Nat.mod_eq_of_lt hlt]

theorem toNat_ofNat_of_lt_width {w : Width} {v : Nat} (h : v < 16 ^ digitsOf w) : (BitVec.ofNat 16 v).toNat = v := by
  rw [BitVec.toNat_ofNat]
  exact Nat.mod_eq_of_lt (h.trans_le (by cases w <;> decide))

/-- Settles O35: the digits and the carry out are the sum (`addNibbles_of_isBcd`), so the digits are the remainder. -/
theorem decimalAdditionAddsDecimals : Obligations.DecimalAdditionAddsDecimals := by
  intro w a b c _ _ ha hb n sum
  obtain ⟨hlt, hbcd, hvalue⟩ := addNibbles_of_isBcd c ha hb
  obtain ⟨hmod, hcarry⟩ := mod_and_carry_of_add_mul (bcdValue_lt hbcd) hvalue
  rw [addDec_eq_addNibbles, toNat_ofNat_of_lt_width hlt, Width.two_pow_bits]
  exact ⟨hlt, hbcd, hmod, hcarry⟩

/-- Settles O36: as for addition, on the difference with `10^n` lent to it. -/
theorem decimalSubtractionSubtractsDecimals : Obligations.DecimalSubtractionSubtractsDecimals := by
  intro w a b c _ hbw ha hb n taken
  obtain ⟨hlt, hbcd, hvalue⟩ := subNibbles_of_isBcd (n := n) c ha hb
  have hb' : bcdValue n b.toNat < 10 ^ n := bcdValue_lt hb
  have hc := c.toNat_le
  have hlent : bcdValue n (subNibbles n a.toNat b.toNat c).1 + 10 ^ n * (subNibbles n a.toNat b.toNat c).2.1.toNat =
      bcdValue n a.toNat + 10 ^ n - taken := by omega
  obtain ⟨hmod, hcarry⟩ := mod_and_carry_of_add_mul (bcdValue_lt hbcd) hlent
  rw [subDec_eq_subNibbles w a c hbw, toNat_ofNat_of_lt_width hlt, Width.two_pow_bits]
  refine ⟨hlt, hbcd, hmod, hcarry.trans (decide_eq_decide.mpr ?_)⟩
  omega

end Sys2Proof.Machine
end

section
/-! PROOFS. Bitwise combinations of words as numbers, BIT and the read-modify-write forms of TSB, TRB, shifts and rotates (R210 to
R219): settles O41, O42, O43 and O44. -/

namespace Sys2Proof.Machine

open Sys2Proof.Claims

/-! AND, ORA and EOR (R210 to R212). -/

theorem andForms_run : FormsRun Operand.encoded andForms andOp := by
  intro o op i h
  unfold andForms at h
  split at h <;> cases h <;> exact ⟨rfl, fun _ => rfl⟩

theorem oraForms_run : FormsRun Operand.encoded oraForms oraOp := by
  intro o op i h
  unfold oraForms at h
  split at h <;> cases h <;> exact ⟨rfl, fun _ => rfl⟩

theorem eorForms_run : FormsRun Operand.encoded eorForms eorOp := by
  intro o op i h
  unfold eorForms at h
  split at h <;> cases h <;> exact ⟨rfl, fun _ => rfl⟩

/-- The accumulator combined with an operand, by what the combination does to the numbers. -/
theorem logicOp_eq {f : Word → Word → Word} {g : Nat → Nat → Nat} (hf : ∀ a b, (f a b).toNat = g a.toNat b.toNat)
    (s : State) (o : Operand) :
    logicOp f s o =
      { s with
        cpu :=
          { s.cpu with
            a := intoAcc s.cpu.mw s.cpu.a (g (low s.cpu.mw s.cpu.a) (o.load s.cpu.mw s.cpu s.bus).1.toNat)
            p := status s.cpu.p (nz s.cpu.mw (g (low s.cpu.mw s.cpu.a) (o.load s.cpu.mw s.cpu s.bus).1.toNat)) }
        bus := (o.load s.cpu.mw s.cpu s.bus).2 } := by
  rw [low, ← Width.mask_toNat, ← hf, ← Width.merge_eq_intoAcc, ← setNZ_eq_status]
  rfl

/-- Settles O41: the three are one combination (`logicOp_eq`), each bitwise on the numbers. -/
theorem logicResult : Obligations.LogicResult :=
  ⟨loadsOperand_of_formsRun andForms_run (logicOp_eq BitVec.toNat_and),
    loadsOperand_of_formsRun oraForms_run (logicOp_eq BitVec.toNat_or),
    loadsOperand_of_formsRun eorForms_run (logicOp_eq BitVec.toNat_xor)⟩

/-! BIT (R213). -/

/-- BIT's meaning by its operand: the memory forms write N and V too. -/
def bitOp (s : State) : Operand → State
  | .imm v => bitImmOp s v
  | .mem m => bitMemOp s m

theorem bitForms_run : FormsRun Operand.encoded bitForms bitOp := by
  intro o op i h
  unfold bitForms at h
  split at h <;> cases h <;> exact ⟨rfl, fun _ => rfl⟩

/-- Accumulator and operand share no bit. -/
theorem Width.mask_and_beq_zero (w : Width) (a op : Word) : (w.mask a &&& op == 0) = decide (low w a &&& op.toNat = 0) := by
  rw [low, ← Width.mask_toNat, ← BitVec.toNat_and, Bool.eq_iff_iff, beq_iff_eq, decide_eq_true_iff, ← BitVec.toNat_inj]
  rfl

theorem bitZ_eq_status (w : Width) (a op : Word) (p : Byte) :
    bitZ w a op p = status p { z := some (decide (low w a &&& op.toNat = 0)) } := by
  refine byte_ext_flags fun f => ?_
  rw [bitZ, flagGet_flagSet, flagGet_status, Width.mask_and_beq_zero]
  cases f <;> rfl

/-- A bit of a word as a digit of its number. -/
theorem getLsbD_eq_div_mod (v : Word) (k : Nat) : v.getLsbD k = (v.toNat / 2 ^ k % 2 == 1) := by
  rw [BitVec.getLsbD, Nat.testBit_eq_decide_div_mod_eq]
  rfl

theorem bitNV_bitZ_eq_status (w : Width) (a op : Word) (p : Byte) :
    bitNV w op (bitZ w a op p) = status p
      { z := some (decide (low w a &&& op.toNat = 0)), n := some (isNeg w op.toNat),
        v := some (op.toNat / 2 ^ (w.bits - 2) % 2 == 1) } := by
  refine byte_ext_flags fun f => ?_
  rw [bitZ_eq_status, bitNV, flagGet_flagSet, flagGet_flagSet, flagGet_status, flagGet_status, Width.msb_eq_isNeg,
    getLsbD_eq_div_mod]
  cases f <;> rfl

/-- Settles O42: BIT is a load and its flags, with N and V for a memory operand only. -/
theorem bitResult : Obligations.BitResult := by
  refine loadsOperand_of_formsRun bitForms_run fun s o => ?_
  cases o with
  | imm v =>
    simp only [← bitZ_eq_status]
    rfl
  | mem m =>
    simp only [← bitNV_bitZ_eq_status]
    rfl

/-! TSB and TRB (R214, R215). -/

theorem tsbForms_run : FormsRun RmwOperand.encoded tsbForms fun s => s.rmw fun w => tsbOut w s.cpu.a := by
  intro o op i h
  unfold tsbForms at h
  split at h <;> cases h <;> exact ⟨rfl, fun _ => rfl⟩

theorem trbForms_run : FormsRun RmwOperand.encoded trbForms fun s => s.rmw fun w => trbOut w s.cpu.a := by
  intro o op i h
  unfold trbForms at h
  split at h <;> cases h <;> exact ⟨rfl, fun _ => rfl⟩

theorem Width.mask_and (w : Width) (a b : Word) : w.mask (a &&& b) = a &&& w.mask b := by
  cases w with
  | w8 => exact BitVec.and_assoc _ _ _
  | w16 => rfl

/-- The accumulator's bits set in a number (R214). -/
theorem tsbOut_toNat (w : Width) (a v : Word) (p : Byte) : (tsbOut w a v p).1.toNat = v.toNat ||| low w a := by
  rw [tsbOut, BitVec.toNat_or, Width.mask_toNat, low]

/-- The accumulator's bits cleared in a number (R215). -/
theorem trbOut_toNat (w : Width) (a v : Word) (p : Byte) :
    (trbOut w a v p).1.toNat = v.toNat &&& (2 ^ w.bits - 1 - low w a) := by
  rw [trbOut, Width.mask_and, BitVec.toNat_and, Width.mask_not_toNat w (Width.mask_lt w a), Width.mask_toNat, low]

/-- Settles O43: both are a read-modify-write with BIT's Z of the value read. -/
theorem tsbTrbResult : Obligations.TsbTrbResult :=
  ⟨modifiesOperand_of_formsRun (out := fun c w => tsbOut w c.a) tsbForms_run (fun _ _ => rfl)
      (fun c w v _ => tsbOut_toNat w c.a v c.p) fun c w v _ => bitZ_eq_status w c.a v c.p,
    modifiesOperand_of_formsRun (out := fun c w => trbOut w c.a) trbForms_run (fun _ _ => rfl)
      (fun c w v _ => trbOut_toNat w c.a v c.p) fun c w v _ => bitZ_eq_status w c.a v c.p⟩

/-! Shifts and rotates (R216 to R219). -/

theorem aslForms_run : FormsRun RmwOperand.encoded aslForms aslOp := by
  intro o op i h
  unfold aslForms at h
  split at h <;> cases h <;> exact ⟨rfl, fun _ => rfl⟩

theorem lsrForms_run : FormsRun RmwOperand.encoded lsrForms lsrOp := by
  intro o op i h
  unfold lsrForms at h
  split at h <;> cases h <;> exact ⟨rfl, fun _ => rfl⟩

theorem rolForms_run : FormsRun RmwOperand.encoded rolForms rolOp := by
  intro o op i h
  unfold rolForms at h
  split at h <;> cases h <;> exact ⟨rfl, fun _ => rfl⟩

theorem rorForms_run : FormsRun RmwOperand.encoded rorForms rorOp := by
  intro o op i h
  unfold rorForms at h
  split at h <;> cases h <;> exact ⟨rfl, fun _ => rfl⟩

/-- The flags of a shift: the bit shifted out in C, and N and Z of a number that has those of the result. -/
theorem setNZ_carry_eq_status {w : Width} {r : Word} {n : Nat} {out out' : Bool} (p : Byte)
    (hnz : nz w r.toNat = nz w n) (hout : out = out') :
    setNZ w r (flagSet p .c out) = status p { nz w n with c := some out' } := by
  subst hout
  rw [← hnz]
  refine byte_ext_flags fun f => ?_
  rw [flagGet_setNZ, flagGet_flagSet, flagGet_status, Width.msb_eq_isNeg, Width.mask_beq_zero]
  cases f <;> rfl

theorem shiftLeft_one_toNat (v : Word) : (v <<< 1).toNat = 2 * (v.toNat % 32768) := by
  rw [BitVec.toNat_shiftLeft, Nat.shiftLeft_eq]
  omega

theorem shiftRight_one_toNat (v : Word) : (v >>> 1).toNat = v.toNat / 2 := by
  rw [BitVec.toNat_ushiftRight, Nat.shiftRight_eq_div_pow, pow_one]

/-- Doubled modulo `2^w` (R216). -/
theorem aslOut_toNat (w : Width) (v : Word) (p : Byte) : (aslOut w v p).1.toNat = 2 * v.toNat % 2 ^ w.bits := by
  rw [aslOut, Width.mask_toNat, shiftLeft_one_toNat]
  cases w <;> simp only [Width.bits] <;> omega

/-- A carry in bit 0 of a doubled word is added to it. -/
theorem shiftLeft_one_or_carry_toNat (v : Word) (c : Bool) :
    ((v <<< 1) ||| (if c then 1 else 0)).toNat = 2 * (v.toNat % 32768) + c.toNat := by
  have hcarry : (if c then 1 else 0 : Word).toNat = c.toNat := by cases c <;> rfl
  rw [BitVec.toNat_or, shiftLeft_one_toNat, hcarry]
  exact (Nat.two_pow_add_eq_or_of_lt (i := 1) c.toNat_lt _).symm

/-- Doubled with the old carry in bit 0, modulo `2^w` (R218). -/
theorem rolOut_toNat (w : Width) (v : Word) (p : Byte) :
    (rolOut w v p).1.toNat = (2 * v.toNat + (bitOf p 0).toNat) % 2 ^ w.bits := by
  have hc := (bitOf p 0).toNat_le
  rw [rolOut, Width.mask_toNat, shiftLeft_one_or_carry_toNat, flagGet_eq_bitOf, Flag.bit]
  cases w <;> simp only [Width.bits] <;> omega

/-- Halved with the old carry in the top bit (R219). -/
theorem rorOut_toNat (w : Width) {v : Word} (p : Byte) (hv : v.toNat < 2 ^ w.bits) :
    (rorOut w v p).1.toNat = v.toNat / 2 + (bitOf p 0).toNat * 2 ^ (w.bits - 1) := by
  have hcarry : (if bitOf p 0 then 0x0001#16 <<< (w.bits - 1) else 0).toNat = 2 ^ (w.bits - 1) * (bitOf p 0).toNat := by
    cases w <;> cases bitOf p 0 <;> rfl
  have hhalf : v.toNat / 2 < 2 ^ (w.bits - 1) := by
    cases w <;> simp only [Width.bits] at hv ⊢ <;> omega
  rw [rorOut, BitVec.toNat_or, shiftRight_one_toNat, flagGet_eq_bitOf, Flag.bit, hcarry, Nat.or_comm,
    ← Nat.two_pow_add_eq_or_of_lt hhalf, Nat.add_comm, Nat.mul_comm]

/-- Bit 0, which a shift to the right moves out. -/
theorem getLsbD_zero_eq_mod (v : Word) : v.getLsbD 0 = (v.toNat % 2 == 1) := by
  rw [getLsbD_eq_div_mod, pow_zero, Nat.div_one]

/-- Settles O44: each is a read-modify-write of its number, with the bit shifted out in C; N and Z depend on the low
bits alone (`nz_mod`). -/
theorem shiftResult : Obligations.ShiftResult := by
  refine ⟨?asl, ?lsr, ?rol, ?ror⟩
  case asl =>
    refine modifiesOperand_of_formsRun (out := fun _ => aslOut) aslForms_run (fun _ _ => rfl)
      (fun c w v _ => aslOut_toNat w v c.p) fun c w v _ => setNZ_carry_eq_status c.p ?_ (Width.msb_eq_isNeg w v)
    exact (congrArg _ (aslOut_toNat w v c.p)).trans (nz_mod _ _)
  case lsr =>
    exact modifiesOperand_of_formsRun (out := fun _ => lsrOut) lsrForms_run (fun _ _ => rfl)
      (fun _ _ v _ => shiftRight_one_toNat v) fun c _ v _ =>
        setNZ_carry_eq_status c.p (congrArg _ (shiftRight_one_toNat v)) (getLsbD_zero_eq_mod v)
  case rol =>
    refine modifiesOperand_of_formsRun (out := fun _ => rolOut) rolForms_run (fun _ _ => rfl)
      (fun c w v _ => rolOut_toNat w v c.p) fun c w v _ => setNZ_carry_eq_status c.p ?_ (Width.msb_eq_isNeg w v)
    exact (congrArg _ (rolOut_toNat w v c.p)).trans (nz_mod _ _)
  case ror =>
    exact modifiesOperand_of_formsRun (out := fun _ => rorOut) rorForms_run (fun _ _ => rfl)
      (fun c w _ hv => rorOut_toNat w c.p hv) fun c w v hv =>
        setNZ_carry_eq_status c.p (congrArg _ (rorOut_toNat w c.p hv)) (getLsbD_zero_eq_mod v)

end Sys2Proof.Machine
end

section
/-! PROOFS. Branches and jumps, and what pushes and pulls of any length do to the state and to memory (R33 to R36,
R240 to R256): settles O45, O46, O47 and O48. -/

namespace Sys2Proof.Machine

open Sys2Proof.Claims

/-! Operand bytes (R91, R93) and addresses in bank `$00`. -/

theorem cons_wordBytes (op : Byte) (v : Word) : op :: wordBytes v = op :: modeBytes (.abs v) :=
  congrArg _ (modeBytes_eq_encoded (.abs v)).symm

theorem cons_addrBytes (op : Byte) (a : Addr) : op :: addrBytes a = op :: modeBytes (.long a) :=
  congrArg _ (modeBytes_eq_encoded (.long a)).symm

theorem byteAddr_zero_eq_mkAddr (off : Word) : byteAddr 0 off.toNat = mkAddr 0x00 off :=
  (mkAddr_eq_byteAddr 0x00 off).symm

/-! Branches (R240 to R249). -/

/-- The displacement is a signed number, added modulo 2^16 (R118). -/
theorem rel8Target_eq_ofInt (c : Cpu) (r : Byte) : rel8Target c r = BitVec.ofInt 16 ((c.pc.toNat : Int) + r.toInt) := by
  rw [BitVec.ofInt_add, BitVec.ofInt_natCast, BitVec.ofNat_toNat, BitVec.setWidth_eq]
  rfl

theorem branchOp_eq (s : State) (cond : Bool) (r : Byte) :
    branchOp s cond r =
      { s with
        cpu :=
          { s.cpu with pc := if cond then BitVec.ofInt 16 ((s.cpu.pc.toNat : Int) + r.toInt) else s.cpu.pc } } := by
  rw [← rel8Target_eq_ofInt]
  cases cond <;> rfl

theorem branchesIf_of_branchOp {mk : Byte → Instr} {op : Byte} {cond : Byte → Bool} (henc : ∀ r, encode (mk r) = [op, r])
    (hexec : ∀ r s, exec (mk r) s = .next (branchOp s (cond s.cpu.p) r)) : BranchesIf mk op cond := fun r s =>
  ⟨henc r, (hexec r s).trans (congrArg _ (branchOp_eq s _ r))⟩

/-- A branch taken when its flag is set (R242, R244, R246, R248). -/
theorem branchesIf_set {mk : Byte → Instr} {op : Byte} (f : Flag) (henc : ∀ r, encode (mk r) = [op, r])
    (hexec : ∀ r s, exec (mk r) s = .next (branchIf s f true r)) : BranchesIf mk op fun p => bitOf p f.bit :=
  branchesIf_of_branchOp henc fun r s => by rw [hexec, branchIf, beq_true, flagGet_eq_bitOf]

/-- A branch taken when its flag is clear (R241, R243, R245, R247). -/
theorem branchesIf_clear {mk : Byte → Instr} {op : Byte} (f : Flag) (henc : ∀ r, encode (mk r) = [op, r])
    (hexec : ∀ r s, exec (mk r) s = .next (branchIf s f false r)) : BranchesIf mk op fun p => !bitOf p f.bit :=
  branchesIf_of_branchOp henc fun r s => by rw [hexec, branchIf, beq_false, flagGet_eq_bitOf]

/-- Settles O45: the conditional branches test one flag, set or clear, and BRA tests none. -/
theorem branchResult : Obligations.BranchResult :=
  ⟨branchesIf_clear .n (fun _ => rfl) fun _ _ => rfl, branchesIf_set .n (fun _ => rfl) fun _ _ => rfl,
    branchesIf_clear .v (fun _ => rfl) fun _ _ => rfl, branchesIf_set .v (fun _ => rfl) fun _ _ => rfl,
    branchesIf_clear .c (fun _ => rfl) fun _ _ => rfl, branchesIf_set .c (fun _ => rfl) fun _ _ => rfl,
    branchesIf_clear .z (fun _ => rfl) fun _ _ => rfl, branchesIf_set .z (fun _ => rfl) fun _ _ => rfl,
    branchesIf_of_branchOp (fun _ => rfl) fun _ _ => rfl⟩

/-! Jumps (R250 to R252). -/

theorem rel16Target_eq_ofNat (c : Cpu) (r : Word) : rel16Target c r = BitVec.ofNat 16 (c.pc.toNat + r.toNat) := by
  rw [rel16Target, BitVec.ofNat_add, BitVec.ofNat_toNat, BitVec.ofNat_toNat, BitVec.setWidth_eq, BitVec.setWidth_eq]

/-- The pointer of `(abs)` is in bank `$00` (R121). -/
theorem indTarget_eq (o : Word) (b : Bus) :
    indTarget o b = (BitVec.ofNat 16 (leRead 2 0 o.toNat b).1, (leRead 2 0 o.toNat b).2) :=
  b.read16_mkAddr 0x00 o

/-- The pointer of `(abs,X)` is in bank PB, the index added in the bank (R122). -/
theorem indXTarget_eq (o : Word) (c : Cpu) (b : Bus) :
    indXTarget o c b =
      (BitVec.ofNat 16 (leRead 2 c.pb.toNat (o.toNat + c.x.toNat) b).1,
        (leRead 2 c.pb.toNat (o.toNat + c.x.toNat) b).2) := by
  rw [indXTarget, Bus.read16_mkAddr, BitVec.toNat_add, leRead_mod]

/-- The pointer of `[abs]` is three bytes in bank `$00` (R123). -/
theorem indLongTarget_eq (o : Word) (b : Bus) :
    indLongTarget o b = (BitVec.ofNat 24 (leRead 3 0 o.toNat b).1, (leRead 3 0 o.toNat b).2) := by
  rw [indLongTarget, ← byteAddr_zero_eq_mkAddr, Bus.read24_bankZero]

/-- A jump to a 24-bit number: its bits above 16 go to PB, the others to PC (R252). -/
theorem State.jumpLong_ofNat (s : State) (n : Nat) :
    s.jumpLong (BitVec.ofNat 24 n) =
      { s with cpu := { s.cpu with pb := BitVec.ofNat 8 (n / 65536), pc := BitVec.ofNat 16 n } } := by
  have hbank : bankOf (BitVec.ofNat 24 n) = BitVec.ofNat 8 (n / 65536) := by
    simp only [bankOf, ← BitVec.toNat_inj, BitVec.extractLsb'_toNat, BitVec.toNat_ofNat, Nat.shiftRight_eq_div_pow]
    omega
  have hoff : offOf (BitVec.ofNat 24 n) = BitVec.ofNat 16 n := by
    simp only [offOf, ← BitVec.toNat_inj, BitVec.extractLsb'_toNat, BitVec.toNat_ofNat, Nat.shiftRight_zero]
    omega
  rw [State.jumpLong, hbank, hoff]
  rfl

theorem State.jumpLong_eq (s : State) (a : Addr) :
    s.jumpLong a =
      { s with cpu := { s.cpu with pb := BitVec.ofNat 8 (a.toNat / 65536), pc := BitVec.ofNat 16 a.toNat } } := by
  rw [← State.jumpLong_ofNat, BitVec.ofNat_toNat, BitVec.setWidth_eq]

theorem jmpIndOp_eq (s : State) (o : Word) :
    jmpIndOp s o =
      { s with
        cpu := { s.cpu with pc := BitVec.ofNat 16 (leRead 2 0 o.toNat s.bus).1 }
        bus := (leRead 2 0 o.toNat s.bus).2 } := by
  rw [jmpIndOp, indTarget_eq]
  rfl

theorem jmpIndXOp_eq (s : State) (o : Word) :
    jmpIndXOp s o =
      { s with
        cpu :=
          { s.cpu with pc := BitVec.ofNat 16 (leRead 2 s.cpu.pb.toNat (o.toNat + s.cpu.x.toNat) s.bus).1 }
        bus := (leRead 2 s.cpu.pb.toNat (o.toNat + s.cpu.x.toNat) s.bus).2 } := by
  rw [jmpIndXOp, indXTarget_eq]
  rfl

theorem jmlIndOp_eq (s : State) (o : Word) :
    jmlIndOp s o =
      { s with
        cpu :=
          { s.cpu with
            pb := BitVec.ofNat 8 ((leRead 3 0 o.toNat s.bus).1 / 65536)
            pc := BitVec.ofNat 16 (leRead 3 0 o.toNat s.bus).1 }
        bus := (leRead 3 0 o.toNat s.bus).2 } := by
  rw [jmlIndOp, indLongTarget_eq]
  exact State.jumpLong_ofNat _ _

/-- Settles O46: the targets are those of the pointer reads (`indTarget_eq` and its like), and a read leaves every cell. -/
theorem jumpResult : Obligations.JumpResult := by
  intro s r o l ind indX indL
  refine ⟨cons_wordBytes 0x82 r, cons_wordBytes 0x4C o, cons_wordBytes 0x6C o, cons_wordBytes 0x7C o, cons_addrBytes 0x5C l,
    cons_wordBytes 0xDC o, ?brl, rfl, ?jmpInd, ?jmpIndX, ?jmlLong, ?jmlInd, leRead_sameBytes _ _ _ _,
    leRead_sameBytes _ _ _ _, leRead_sameBytes _ _ _ _⟩
  case brl => exact congrArg (fun pc => Host.Outcome.next (s.setPC pc)) (rel16Target_eq_ofNat s.cpu r)
  case jmpInd => exact congrArg Host.Outcome.next (jmpIndOp_eq s o)
  case jmpIndX => exact congrArg Host.Outcome.next (jmpIndXOp_eq s o)
  case jmlLong => exact congrArg Host.Outcome.next (s.jumpLong_eq l)
  case jmlInd => exact congrArg Host.Outcome.next (jmlIndOp_eq s o)

/-! Pushes of any length (R33, R35). -/

/-- The first push, and then the others. -/
theorem afterPushes_cons (v : Byte) (rest : List Byte) (post : Cpu → Cpu) (s : State) :
    afterPushes (v :: rest) post s = afterPushes rest post (s.push8 v) := by
  simp only [afterPushes, pushes, below_eq_stackPtr, byteAddr_zero_eq_mkAddr]
  rfl

/-- The model's pushes, and the change of the registers after them. -/
theorem afterPushes_eq_pushBytes (bytes : List Byte) (post : Cpu → Cpu) (s : State) :
    afterPushes bytes post s = { s.pushBytes bytes with cpu := post (s.pushBytes bytes).cpu } := by
  induction bytes generalizing s with
  | nil => rfl
  | cons v rest ih => rw [afterPushes_cons, ih, State.pushBytes_cons]

theorem State.push8_onlyCells (s : State) (v : Byte) : OnlyCells [mkAddr 0x00 s.cpu.s] s.bus (s.push8 v).bus :=
  s.bus.write_onlyCells _ v

/-- Pushes change the cells of the stack addresses alone (R33). -/
theorem afterPushes_onlyCells (bytes : List Byte) (post : Cpu → Cpu) (s : State) :
    OnlyCells (pushAddrs s.cpu.e bytes.length s.cpu.s) s.bus (afterPushes bytes post s).bus := by
  induction bytes generalizing s with
  | nil => exact fun _ _ _ => rfl
  | cons v rest ih =>
    rw [afterPushes_cons, List.length_cons, pushAddrs_succ]
    exact onlyCells_trans (s.push8_onlyCells v) (ih (s.push8 v)) (s.push8_only v).params

theorem readSeq_params (n bank off : Nat) (b : Bus) : (readSeq n bank off b).2.params = b.params := by
  induction n generalizing off b with
  | zero => rfl
  | succ n ih => rw [readSeq, ih, Bus.read_params]

/-- A read before the pushes changes no cell more. -/
theorem afterPushes_onlyCells_of_leRead (bytes : List Byte) (post : Cpu → Cpu) (s : State) (n bank off : Nat) :
    OnlyCells (pushAddrs s.cpu.e bytes.length s.cpu.s) s.bus
      (afterPushes bytes post { s with bus := (leRead n bank off s.bus).2 }).bus :=
  onlyCells_trans (sameBytes_onlyCells (leRead_sameBytes n bank off s.bus) [])
    (afterPushes_onlyCells bytes post { s with bus := (leRead n bank off s.bus).2 }) (readSeq_params n bank off s.bus)

/-- A pushed number is taken modulo 2^16 (R35). -/
theorem pushWord_eq (n : Nat) : pushWord n = [hiByte (BitVec.ofNat 16 n), loByte (BitVec.ofNat 16 n)] := by
  rw [← pushWord_toNat]
  simp only [pushWord, byteOf, List.cons.injEq, and_true, ← BitVec.toNat_inj, BitVec.toNat_ofNat]
  omega

/-! Calls (R253, R254). -/

/-- The bytes that a call pushes: the address of the instruction's last byte (R253). -/
theorem pushWord_returnAddress (pc : Word) : pushWord (pc.toNat + 65535) = [hiByte (pc - 1), loByte (pc - 1)] := by
  have hpc : BitVec.ofNat 16 (pc.toNat + 65535) = pc - 1 := by
    apply BitVec.eq_of_toNat_eq
    rw [BitVec.toNat_ofNat, BitVec.toNat_sub, Nat.add_comm]
    rfl
  rw [pushWord_eq, hpc]

theorem State.call_eq_afterPushes (s : State) (target : Word) :
    s.call target = afterPushes (pushWord (s.cpu.pc.toNat + 65535)) (fun c => { c with pc := target }) s := by
  rw [pushWord_returnAddress, afterPushes_eq_pushBytes, State.call_eq]
  rfl

theorem State.callLong_eq_afterPushes (s : State) (target : Addr) :
    s.callLong target =
      afterPushes (s.cpu.pb :: pushWord (s.cpu.pc.toNat + 65535))
        (fun c => { c with pb := BitVec.ofNat 8 (target.toNat / 65536), pc := BitVec.ofNat 16 target.toNat }) s := by
  rw [pushWord_returnAddress, afterPushes_eq_pushBytes, State.callLong_eq, State.jumpLong_eq]

/-- The pointer is read before the pushes (R253). -/
theorem jsrIndXOp_eq_afterPushes (s : State) (o : Word) :
    jsrIndXOp s o =
      afterPushes (pushWord (s.cpu.pc.toNat + 65535))
        (fun c => { c with pc := BitVec.ofNat 16 (leRead 2 s.cpu.pb.toNat (o.toNat + s.cpu.x.toNat) s.bus).1 })
        { s with bus := (leRead 2 s.cpu.pb.toNat (o.toNat + s.cpu.x.toNat) s.bus).2 } := by
  rw [jsrIndXOp, indXTarget_eq]
  exact State.call_eq_afterPushes _ _

/-- Settles O47: a call is pushes and a jump, and pushes change the stack's cells alone (`afterPushes_onlyCells`). -/
theorem callResult : Obligations.CallResult := by
  intro s o l ret indX
  refine ⟨cons_wordBytes 0x20 o, cons_wordBytes 0xFC o, cons_addrBytes 0x22 l, ?jsrAbs, ?jsrIndX, ?jsl,
    afterPushes_onlyCells ret id s, afterPushes_onlyCells_of_leRead ret id s _ _ _,
    afterPushes_onlyCells (s.cpu.pb :: ret) id s⟩
  case jsrAbs => exact congrArg Host.Outcome.next (s.call_eq_afterPushes o)
  case jsrIndX => exact congrArg Host.Outcome.next (jsrIndXOp_eq_afterPushes s o)
  case jsl => exact congrArg Host.Outcome.next (s.callLong_eq_afterPushes l)

/-! Pulls of any length (R34, R36). -/

/-- `S` after a pull (R34). -/
theorem above_eq_stackPtr (e : Bool) (sp : Word) : above e sp = stackPtr e (sp + 1) := by
  apply BitVec.eq_of_toNat_eq
  rw [stackPtr_toNat, BitVec.toNat_add]
  cases e with
  | false => rfl
  | true =>
    simp [above]
    omega

/-- The first pull, and then the others: the first byte is the lowest (R36). -/
theorem afterPulls_succ (n : Nat) (post : Nat → Cpu → Cpu) (s : State) :
    afterPulls (n + 1) post s = afterPulls n (fun v => post (s.pull8.1.toNat + 256 * v)) s.pull8.2 := by
  simp only [afterPulls, pulls, above_eq_stackPtr, byteAddr_zero_eq_mkAddr]
  rfl

theorem afterPulls_one (post : Nat → Cpu → Cpu) (s : State) :
    afterPulls 1 post s = { s.pull8.2 with cpu := post s.pull8.1.toNat s.pull8.2.cpu } := by
  rw [afterPulls_succ]
  rfl

/-- A word pulled first is the low part of the number. -/
theorem afterPulls_pull16 (n : Nat) (post : Nat → Cpu → Cpu) (s : State) :
    afterPulls (n + 2) post s = afterPulls n (fun v => post (s.pull16.1.toNat + 65536 * v)) s.pull16.2 := by
  have hvalue (v : Nat) : s.pull8.1.toNat + 256 * (s.pull8.2.pull8.1.toNat + 256 * v) = s.pull16.1.toNat + 65536 * v := by
    rw [State.pull16, wordOf_toNat]
    omega
  simp only [afterPulls_succ, hvalue]
  rfl

/-- Pulls leave every cell of memory as it was. -/
theorem afterPulls_sameBytes (n : Nat) (post : Nat → Cpu → Cpu) (s : State) : SameBytes s.bus (afterPulls n post s).bus := by
  induction n generalizing post s with
  | zero => exact fun _ => rfl
  | succ n ih =>
    intro k
    rw [afterPulls_succ, ih, State.pull8_mem]

/-- An instruction pulls its bytes when its meaning is the pulls and then `post` on the registers. -/
theorem pullsBytes_of_exec {i : Instr} {op : Byte} {n : Cpu → Nat} {post : Nat → Cpu → Cpu} (henc : encode i = [op])
    (hexec : ∀ s, exec i s = .next (afterPulls (n s.cpu) post s)) : PullsBytes i op n post :=
  ⟨henc, fun s => ⟨hexec s, afterPulls_sameBytes _ _ _⟩⟩

/-! Returns (R255, R256). -/

/-- The address after a pulled one, in its bank. -/
theorem ofNat_pulled_succ (v : Word) (bank : Nat) : BitVec.ofNat 16 (v.toNat + 65536 * bank + 1) = v + 1 := by
  apply BitVec.eq_of_toNat_eq
  rw [BitVec.toNat_ofNat, BitVec.toNat_add]
  show _ = (v.toNat + 1) % 2 ^ 16
  omega

/-- The bank above a pulled address (R256). -/
theorem ofNat_pulled_bank (v : Word) (bank : Byte) : BitVec.ofNat 8 ((v.toNat + 65536 * bank.toNat) / 65536) = bank := by
  have hv := v.isLt
  rw [show (v.toNat + 65536 * bank.toNat) / 65536 = bank.toNat by omega, BitVec.ofNat_toNat, BitVec.setWidth_eq]

theorem rtsOp_eq_afterPulls (s : State) :
    rtsOp s = afterPulls 2 (fun v c => { c with pc := BitVec.ofNat 16 (v + 1) }) s := by
  rw [afterPulls_pull16]
  simp only [ofNat_pulled_succ]
  rfl

theorem rtlOp_eq_afterPulls (s : State) :
    rtlOp s =
      afterPulls 3 (fun v c => { c with pc := BitVec.ofNat 16 (v + 1), pb := BitVec.ofNat 8 (v / 65536) }) s := by
  rw [afterPulls_pull16, afterPulls_one]
  simp only [ofNat_pulled_succ, ofNat_pulled_bank]
  rfl

/-- Settles O48: both are pulls and then the new PC, and pulls leave every cell (`afterPulls_sameBytes`). -/
theorem returnResult : Obligations.ReturnResult :=
  ⟨pullsBytes_of_exec rfl fun s => congrArg Host.Outcome.next (rtsOp_eq_afterPulls s),
    pullsBytes_of_exec rfl fun s => congrArg Host.Outcome.next (rtlOp_eq_afterPulls s)⟩

end Sys2Proof.Machine
end

section
/-! PROOFS. The stack instructions as pushes and pulls at a width, with the flags of what is pulled (R270 to R285): settles O50,
O51 and O52. -/

namespace Sys2Proof.Machine

open Sys2Proof.Claims

/-! Pushes of one byte, of a word, and at a width (R33, R35). -/

theorem State.push8_eq_afterPushes (s : State) (v : Byte) : s.push8 v = afterPushes [v] id s := by
  rw [afterPushes_cons]
  rfl

/-- A number is pushed modulo 2^16, its high byte first (R35). -/
theorem State.push16_ofNat (s : State) (n : Nat) : s.push16 (BitVec.ofNat 16 n) = afterPushes (pushWord n) id s := by
  rw [pushWord_eq, afterPushes_cons, afterPushes_cons]
  rfl

theorem State.push16_eq_afterPushes (s : State) (v : Word) : s.push16 v = afterPushes (pushWord v.toNat) id s := by
  rw [← State.push16_ofNat, BitVec.ofNat_toNat, BitVec.setWidth_eq]

theorem State.pushW_eq_afterPushes (s : State) (w : Width) (v : Word) : s.pushW w v = afterPushes (pushAt w v) id s := by
  cases w with
  | w8 =>
    rw [pushAt, byteOf_zero_eq_loByte]
    exact s.push8_eq_afterPushes (loByte v)
  | w16 => exact s.push16_eq_afterPushes v

/-- An instruction pushes its bytes when its meaning is the pushes and nothing more. -/
theorem pushesBytes_of_exec {i : Instr} {bytes : Cpu → List Byte}
    (hexec : ∀ s, exec i s = .next (afterPushes (bytes s.cpu) id s)) : PushesBytes i bytes := fun s =>
  ⟨hexec s, afterPushes_onlyCells _ _ _⟩

/-- Settles O50: each is one push, of a byte, of a word or at a width, and pushes change the stack's cells alone
(`afterPushes_onlyCells`). -/
theorem pushResult : Obligations.PushResult := by
  refine ⟨rfl, rfl, rfl, rfl, rfl, rfl, rfl, ?pha, ?php, ?phx, ?phy, ?phb, ?phd, ?phk⟩
  case pha => exact pushesBytes_of_exec fun s => congrArg Host.Outcome.next (s.pushW_eq_afterPushes s.cpu.mw s.cpu.a)
  case php => exact pushesBytes_of_exec fun s => congrArg Host.Outcome.next (s.push8_eq_afterPushes s.cpu.p)
  case phx => exact pushesBytes_of_exec fun s => congrArg Host.Outcome.next (s.pushW_eq_afterPushes s.cpu.xw s.cpu.x)
  case phy => exact pushesBytes_of_exec fun s => congrArg Host.Outcome.next (s.pushW_eq_afterPushes s.cpu.xw s.cpu.y)
  case phb => exact pushesBytes_of_exec fun s => congrArg Host.Outcome.next (s.push8_eq_afterPushes s.cpu.db)
  case phd => exact pushesBytes_of_exec fun s => congrArg Host.Outcome.next (s.push16_eq_afterPushes s.cpu.d)
  case phk => exact pushesBytes_of_exec fun s => congrArg Host.Outcome.next (s.push8_eq_afterPushes s.cpu.pb)

/-! Pulls at a width (R34, R36). -/

theorem toNat_setWidth_byte (v : Byte) : (v.setWidth 16).toNat = v.toNat := BitVec.toNat_setWidth_of_le (by decide)

/-- One byte or two are pulled, and the registers are changed by the value they make. -/
theorem afterPulls_pullW (w : Width) (post : Nat → Cpu → Cpu) (s : State) :
    afterPulls (bytesOf w) post s =
      { (s.pullW w).2 with cpu := post (s.pullW w).1.toNat (s.pullW w).2.cpu } := by
  cases w with
  | w8 =>
    rw [State.pullW, toNat_setWidth_byte]
    exact afterPulls_one post s
  | w16 => exact afterPulls_pull16 0 post s

theorem StackOnly.m8 {s t : State} (h : StackOnly s t) : t.cpu.m8 = s.cpu.m8 := by rw [Cpu.m8, Cpu.m8, h.e, h.p]
theorem StackOnly.mw {s t : State} (h : StackOnly s t) : t.cpu.mw = s.cpu.mw := by rw [Cpu.mw, Cpu.mw, h.m8]
theorem StackOnly.xw {s t : State} (h : StackOnly s t) : t.cpu.xw = s.cpu.xw := by rw [Cpu.xw, Cpu.xw, h.x8]

/-! Each pull (R277 to R282). -/

theorem plaOp_eq_afterPulls (s : State) :
    plaOp s =
      afterPulls (bytesOf s.cpu.mw) (fun v c => { c with a := intoAcc c.mw c.a v, p := status c.p (nz c.mw v) }) s := by
  rw [afterPulls_pullW, (s.pullW_only s.cpu.mw).mw, ← Width.merge_eq_intoAcc]
  exact State.flagsNZ_eq _ _ _

/-- The width discipline changes the registers alone (R31). -/
theorem State.widthDiscipline_eq_disciplined (s : State) : s.widthDiscipline = { s with cpu := disciplined s.cpu } := by
  rw [← State.widthDiscipline_cpu, State.widthDiscipline_eq]

theorem plpOp_eq_afterPulls (s : State) :
    plpOp s = afterPulls 1 (fun v c => disciplined { c with p := BitVec.ofNat 8 v }) s := by
  rw [afterPulls_one, BitVec.ofNat_toNat, BitVec.setWidth_eq]
  exact State.widthDiscipline_eq_disciplined _

theorem plxOp_eq_afterPulls (s : State) :
    plxOp s =
      afterPulls (bytesOf s.cpu.xw) (fun v c => { c with x := BitVec.ofNat 16 v, p := status c.p (nz c.xw v) }) s := by
  rw [afterPulls_pullW, (s.pullW_only s.cpu.xw).xw, BitVec.ofNat_toNat, BitVec.setWidth_eq]
  exact State.flagsNZ_eq _ _ _

theorem plyOp_eq_afterPulls (s : State) :
    plyOp s =
      afterPulls (bytesOf s.cpu.xw) (fun v c => { c with y := BitVec.ofNat 16 v, p := status c.p (nz c.xw v) }) s := by
  rw [afterPulls_pullW, (s.pullW_only s.cpu.xw).xw, BitVec.ofNat_toNat, BitVec.setWidth_eq]
  exact State.flagsNZ_eq _ _ _

theorem plbOp_eq_afterPulls (s : State) :
    plbOp s = afterPulls 1 (fun v c => { c with db := BitVec.ofNat 8 v, p := status c.p (nz .w8 v) }) s := by
  rw [afterPulls_one, BitVec.ofNat_toNat, BitVec.setWidth_eq, ← toNat_setWidth_byte]
  exact State.flagsNZ_eq _ _ _

theorem pldOp_eq_afterPulls (s : State) :
    pldOp s = afterPulls 2 (fun v c => { c with d := BitVec.ofNat 16 v, p := status c.p (nz .w16 v) }) s := by
  rw [show 2 = bytesOf .w16 from rfl, afterPulls_pullW, BitVec.ofNat_toNat, BitVec.setWidth_eq]
  exact State.flagsNZ_eq _ _ _

/-- Settles O51: each is its pulls and then the register and the flags, PLP the width discipline, and pulls leave every cell
(`afterPulls_sameBytes`). -/
theorem pullResult : Obligations.PullResult := by
  refine ⟨?pla, ?plp, ?plx, ?ply, ?plb, ?pld⟩
  case pla => exact pullsBytes_of_exec rfl fun s => congrArg Host.Outcome.next (plaOp_eq_afterPulls s)
  case plp => exact pullsBytes_of_exec rfl fun s => congrArg Host.Outcome.next (plpOp_eq_afterPulls s)
  case plx => exact pullsBytes_of_exec rfl fun s => congrArg Host.Outcome.next (plxOp_eq_afterPulls s)
  case ply => exact pullsBytes_of_exec rfl fun s => congrArg Host.Outcome.next (plyOp_eq_afterPulls s)
  case plb => exact pullsBytes_of_exec rfl fun s => congrArg Host.Outcome.next (plbOp_eq_afterPulls s)
  case pld => exact pullsBytes_of_exec rfl fun s => congrArg Host.Outcome.next (pldOp_eq_afterPulls s)

/-! Pushes of a computed word (R283 to R285). -/

/-- The word in the direct page is read before the pushes (R284). -/
theorem peiOp_eq_afterPushes (s : State) (d : Byte) :
    peiOp s d =
      afterPushes (pushWord (leRead 2 0 (s.cpu.d.toNat + d.toNat) s.bus).1) id
        { s with bus := (leRead 2 0 (s.cpu.d.toNat + d.toNat) s.bus).2 } := by
  rw [peiOp, dpAddr_eq_byteAddr, Bus.read16_bankZero]
  exact State.push16_ofNat _ _

/-- The displacement is added to the address of the next instruction (R285). -/
theorem push16_rel16Target (s : State) (r : Word) :
    s.push16 (rel16Target s.cpu r) = afterPushes (pushWord (s.cpu.pc.toNat + r.toNat)) id s := by
  rw [rel16Target_eq_ofNat, State.push16_ofNat]

/-- Settles O52: each is the push of a word, and two pushes change the stack's cells alone, after a read too. -/
theorem pushEffectiveAddressResult : Obligations.PushEffectiveAddressResult := by
  intro v d s word
  refine ⟨cons_wordBytes 0xF4 v, rfl, cons_wordBytes 0x62 v, ?pea, ?pei, ?per, ?cells⟩
  case pea => exact congrArg Host.Outcome.next (s.push16_eq_afterPushes v)
  case pei => exact congrArg Host.Outcome.next (peiOp_eq_afterPushes s d)
  case per => exact congrArg Host.Outcome.next (push16_rel16Target s v)
  case cells =>
    intro bytes hlength
    rw [← hlength]
    exact ⟨afterPushes_onlyCells bytes id s, afterPushes_onlyCells_of_leRead bytes id s _ _ _⟩

end Sys2Proof.Machine
end

section
/-! PROOFS. The instructions that write `P`, and XCE, in numbers and flags (R300 to R309): settles O53, O54 and O55. -/

namespace Sys2Proof.Machine

open Sys2Proof.Claims

/-! One flag written (R300 to R306). -/

/-- The write of one flag (R27). -/
def flagWrite (v : Bool) : Flag → FlagWrites
  | .c => { c := some v }
  | .z => { z := some v }
  | .i => { i := some v }
  | .d => { d := some v }
  | .x => { x := some v }
  | .m => { m := some v }
  | .v => { v := some v }
  | .n => { n := some v }

theorem writtenValue_flagWrite (v : Bool) (f g : Flag) :
    writtenValue (flagWrite v f) g = if g = f then some v else none := by
  cases f <;> cases g <;> rfl

theorem flagSet_eq_status (p : Byte) (f : Flag) (v : Bool) : flagSet p f v = status p (flagWrite v f) := by
  refine byte_ext_flags fun g => ?_
  rw [flagGet_flagSet, flagGet_status, writtenValue_flagWrite]
  split <;> rfl

/-- An instruction whose meaning is the write of one flag changes that flag of `P` alone. -/
theorem changesRegisters_of_putFlag {i : Instr} {op : Byte} {f : Flag} {v : Bool} (henc : encode i = [op])
    (hexec : ∀ s, exec i s = .next (s.putFlag f v)) :
    ChangesRegisters i op fun c => { c with p := status c.p (flagWrite v f) } := by
  refine ⟨henc, fun s => ?_⟩
  rw [hexec, State.putFlag, flagSet_eq_status]
  rfl

/-- Settles O53: each is the write of one flag, and `flagSet_eq_status` says that the other seven are unchanged. -/
theorem flagInstructionResult : Obligations.FlagInstructionResult :=
  ⟨changesRegisters_of_putFlag (f := .c) rfl fun _ => rfl,
    changesRegisters_of_putFlag (f := .c) rfl fun _ => rfl,
    changesRegisters_of_putFlag (f := .i) rfl fun _ => rfl,
    changesRegisters_of_putFlag (f := .i) rfl fun _ => rfl,
    changesRegisters_of_putFlag (f := .d) rfl fun _ => rfl,
    changesRegisters_of_putFlag (f := .d) rfl fun _ => rfl,
    changesRegisters_of_putFlag (f := .v) rfl fun _ => rfl⟩

/-! REP and SEP (R307, R308). -/

/-- The bits of a byte that a mask does not select (R307). -/
theorem and_not_eq_ofNat (p k : Byte) : p &&& ~~~k = BitVec.ofNat 8 (p.toNat &&& (255 - k.toNat)) := by
  have hnot : (~~~k).toNat = 255 - k.toNat := BitVec.toNat_not
  rw [← hnot, ← BitVec.toNat_and, BitVec.ofNat_toNat, BitVec.setWidth_eq]

/-- The bits of a byte with those of a mask (R308). -/
theorem or_eq_ofNat (p k : Byte) : p ||| k = BitVec.ofNat 8 (p.toNat ||| k.toNat) := by
  rw [← BitVec.toNat_or, BitVec.ofNat_toNat, BitVec.setWidth_eq]

theorem repOp_eq_disciplined (s : State) (k : Byte) :
    repOp s k =
      { s with cpu := disciplined { s.cpu with p := BitVec.ofNat 8 (s.cpu.p.toNat &&& (255 - k.toNat)) } } := by
  rw [repOp, and_not_eq_ofNat, State.widthDiscipline_eq_disciplined]
  rfl

theorem sepOp_eq_disciplined (s : State) (k : Byte) :
    sepOp s k = { s with cpu := disciplined { s.cpu with p := BitVec.ofNat 8 (s.cpu.p.toNat ||| k.toNat) } } := by
  rw [sepOp, or_eq_ofNat, State.widthDiscipline_eq_disciplined]
  rfl

/-- Settles O54: `P` under the mask as a number, and the width discipline, which changes the registers alone
(`State.widthDiscipline_eq_disciplined`). -/
theorem repSepResult : Obligations.RepSepResult := fun k s =>
  ⟨rfl, rfl, congrArg Host.Outcome.next (repOp_eq_disciplined s k), congrArg Host.Outcome.next (sepOp_eq_disciplined s k)⟩

/-! XCE (R309). -/

/-- The status byte of XCE: C written, and M and X set on the way into emulation mode. -/
theorem xceStatus_eq_status (p : Byte) (carry entering : Bool) :
    (if entering then flagSet (flagSet (flagSet p .c carry) .m true) .x true else flagSet p .c carry) =
      status p
        { c := some carry, m := if entering then some true else none, x := if entering then some true else none } := by
  cases entering with
  | false => exact flagSet_eq_status p .c carry
  | true =>
    refine byte_ext_flags fun f => ?_
    rw [if_pos rfl, flagGet_flagSet, flagGet_flagSet, flagGet_flagSet, flagGet_status]
    cases f <;> rfl

/-- Settles O55: `E` is the old carry, bit 0 of `P` (`flagGet_eq_bitOf`), `P` is as `xceStatus_eq_status` says, and the width
discipline runs on both. -/
theorem xceResult : Obligations.XceResult := by
  refine ⟨rfl, fun s => congrArg Host.Outcome.next ?_⟩
  have he : flagGet s.cpu.p .c = bitOf s.cpu.p 0 := flagGet_eq_bitOf s.cpu.p .c
  rw [xceOp, State.widthDiscipline_eq_disciplined, xceStatus_eq_status, he]
  rfl

end Sys2Proof.Machine
end

section
/-! PROOFS. Interrupt entry by BRK, COP, NMI and IRQ, the return from it, and the moves at a boundary (R320 to R327, R351 to
R359, R363): settles O5, O9, O10, O56, O57 and O59. -/

namespace Sys2Proof.Machine

open Sys2Proof.Claims

/-! Interrupt entry (R356 to R358). -/

/-- Entry sets I, clears D and writes no other flag (R356). -/
theorem entryFlags_eq_status (p : Byte) :
    flagSet (flagSet p .i true) .d false = status p { i := some true, d := some false } := by
  refine byte_ext_flags fun f => ?_
  rw [flagGet_flagSet, flagGet_flagSet, flagGet_status]
  cases f <;> rfl

theorem State.entryPushes_eq_afterPushes (s : State) (kind : IntKind) :
    s.entryPushes kind = afterPushes (entryBytes (statusImage kind s.cpu.e s.cpu.p) s.cpu) id s := by
  rw [State.entryPushes_eq, afterPushes_eq_pushBytes]
  rfl

/-- Interrupt entry in numbers; an NMI clears its latch besides (R356). -/
theorem State.interrupt_eq_entered (s : State) (kind : IntKind) :
    s.interrupt kind =
      { entered (vectorOf kind s.cpu.e).toNat (statusImage kind s.cpu.e s.cpu.p) s with
        cpu :=
          { (entered (vectorOf kind s.cpu.e).toNat (statusImage kind s.cpu.e s.cpu.p) s).cpu with
            nmiReq := if kind = .nmi then false else s.cpu.nmiReq } } := by
  rw [State.interrupt_eq, State.entryPushes_eq_afterPushes, Bus.read16_mkAddr, entryFlags_eq_status]
  rfl

/-- The entry of BRK and COP, which leave the NMI latch alone (R320, R321). -/
theorem State.interrupt_eq_entered_soft (s : State) {kind : IntKind} (hk : kind = .brk ∨ kind = .cop) :
    s.interrupt kind = entered (vectorOf kind s.cpu.e).toNat (softImage s.cpu) s := by
  rw [State.interrupt_eq_entered, statusImage_eq_softImage hk, if_neg (by obtain rfl | rfl := hk <;> decide)]
  rfl

/-- The entry of NMI and IRQ at a boundary: it ends a wait too (R353, R354). -/
theorem State.takeInterrupt_eq_entered (s : State) {kind : IntKind} (hk : kind = .nmi ∨ kind = .irq) :
    s.takeInterrupt kind =
      { entered (vectorOf kind s.cpu.e).toNat (hardImage s.cpu) s with
        cpu :=
          { (entered (vectorOf kind s.cpu.e).toNat (hardImage s.cpu) s).cpu with
            run := .running
            nmiReq := if kind = .nmi then false else s.cpu.nmiReq } } := by
  rw [State.takeInterrupt, State.interrupt_eq_entered, ← statusImage_eq_hardImage hk]
  rfl

/-- The pushes change the stack's cells alone, and the read of the vector none (R356). -/
theorem entered_onlyCells (vector : Nat) (image : Byte) (s : State) :
    OnlyCells (entryAddrs s.cpu) s.bus (entered vector image s).bus := by
  have hpushes := afterPushes_onlyCells (entryBytes image s.cpu) id s
  rw [entryBytes_length] at hpushes
  exact fun hgdma k hk => (leRead_sameBytes 2 0 vector _ k).trans (hpushes hgdma k hk)

theorem vectorOf_brk (e : Bool) : (vectorOf .brk e).toNat = if e then 0xFFFE else 0xFFE6 := by cases e <;> rfl
theorem vectorOf_cop (e : Bool) : (vectorOf .cop e).toNat = if e then 0xFFF4 else 0xFFE4 := by cases e <;> rfl
theorem vectorOf_nmi (e : Bool) : (vectorOf .nmi e).toNat = if e then 0xFFFA else 0xFFEA := by cases e <;> rfl
theorem vectorOf_irq (e : Bool) : (vectorOf .irq e).toNat = if e then 0xFFFE else 0xFFEE := by cases e <;> rfl

/-- Settles O56: both are the one interrupt entry (`State.interrupt_eq_entered_soft`), each with its vector. -/
theorem softwareInterruptResult : Obligations.SoftwareInterruptResult := by
  intro sig s
  refine ⟨rfl, rfl, ?brk, ?cop, fun vector image => entered_onlyCells vector image s⟩
  case brk =>
    rw [← vectorOf_brk, ← s.interrupt_eq_entered_soft (.inl rfl)]
    rfl
  case cop =>
    rw [← vectorOf_cop, ← s.interrupt_eq_entered_soft (.inr rfl)]
    rfl

/-! The return from an interrupt (R322). -/

/-! The parts of the number that the return pulls: P, then PC, then PB. -/

theorem ofNat_pulled_status (p : Byte) (rest : Nat) : BitVec.ofNat 8 (p.toNat + 256 * rest) = p := by
  apply BitVec.eq_of_toNat_eq
  rw [BitVec.toNat_ofNat]
  omega

theorem ofNat_pulled_pc (p : Byte) (pc : Word) (rest : Nat) :
    BitVec.ofNat 16 ((p.toNat + 256 * (pc.toNat + 65536 * rest)) / 256) = pc := by
  apply BitVec.eq_of_toNat_eq
  rw [BitVec.toNat_ofNat]
  omega

theorem ofNat_pulled_pb (p : Byte) (pc : Word) (pb : Byte) :
    BitVec.ofNat 8 ((p.toNat + 256 * (pc.toNat + 65536 * pb.toNat)) / 16777216) = pb := by
  apply BitVec.eq_of_toNat_eq
  rw [BitVec.toNat_ofNat]
  omega

/-- The return pulls P, PC and in native mode PB, as one number, and runs the width discipline. -/
theorem State.returnFromInterrupt_eq_afterPulls (s : State) :
    s.returnFromInterrupt =
      afterPulls (if s.cpu.e then 3 else 4)
        (fun v c =>
          disciplined
            { c with
              p := BitVec.ofNat 8 v
              pc := BitVec.ofNat 16 (v / 256)
              pb := if c.e then c.pb else BitVec.ofNat 8 (v / 16777216) }) s := by
  rw [State.returnFromInterrupt, State.widthDiscipline_eq_disciplined]
  cases h : s.cpu.e with
  | true =>
    rw [if_pos rfl, if_pos rfl, afterPulls_succ, afterPulls_pull16]
    have he : s.pull8.2.pull16.2.cpu.e = true := h
    simp only [ofNat_pulled_status, ofNat_pulled_pc, afterPulls, pulls, if_pos he]
    rfl
  | false =>
    rw [if_neg nofun, if_neg nofun, afterPulls_succ, afterPulls_pull16, afterPulls_one]
    have he : ¬s.pull8.2.pull16.2.pull8.2.cpu.e = true := by rw [Bool.not_eq_true]; exact h
    simp only [ofNat_pulled_status, ofNat_pulled_pc, ofNat_pulled_pb, if_neg he]
    rfl

/-- Settles O57: the return is its pulls and the width discipline, and pulls leave every cell (`pullsBytes_of_exec`). -/
theorem rtiResult : Obligations.RtiResult :=
  pullsBytes_of_exec rfl fun s => congrArg Host.Outcome.next s.returnFromInterrupt_eq_afterPulls

/-- Settles O59: each meaning is written out in the model with at most the run state changed (R323, R324, R326, R327). -/
theorem nopWaitStopResult : Obligations.NopWaitStopResult :=
  ⟨⟨rfl, fun _ => rfl⟩, fun _ _ => ⟨rfl, rfl⟩, ⟨rfl, fun _ => rfl⟩, ⟨rfl, fun _ => rfl⟩⟩

/-! The moves at a boundary (R353 to R355, R359). -/

/-- Settles O5: every move of `boundaryStep_cases` answers a next state, the instruction step because every instruction
does (`exec_next`, `instrStep_cases`). -/
theorem stepNeverStops : Obligations.StepNeverStops := by
  refine ⟨exec_next, fun s => ?_⟩
  obtain ⟨lows, -, h⟩ | ⟨-, h⟩ | ⟨-, -, -, h⟩ | ⟨-, -, -, -, -, h⟩ | ⟨-, -, h⟩ | ⟨-, -, -, h⟩ :=
    boundaryStep_cases s.pollEnv
  case inr.inr.inr.inr.inr =>
    obtain ⟨_, t, -, -, hinstr⟩ := instrStep_cases s.pollEnv
    exact ⟨t.charge, h.trans hinstr⟩
  all_goals exact ⟨_, h⟩

/-- Settles O9: the boundary takes the NMI before the IRQ, and what it takes enters through its own vector. -/
theorem hardwareInterruptEntry : Obligations.HardwareInterruptEntry := by
  intro s hquiet hreset hrun
  refine ⟨fun hnmi => ?nmi, fun hnmi hirq hi => ?irq⟩
  case nmi =>
    rw [step_of_quiet hquiet, boundaryStep_nmi (s := polled s) hreset hrun hnmi,
      State.takeInterrupt_eq_entered _ (.inl rfl), vectorOf_nmi]
    rfl
  case irq =>
    have hclear : flagGet s.cpu.p .i = false := (flagGet_eq_bitOf _ _).trans hi
    rw [step_of_quiet hquiet, boundaryStep_irq (s := polled s) hreset hrun hnmi hirq hclear,
      State.takeInterrupt_eq_entered _ (.inr rfl), vectorOf_irq]
    rfl

theorem boundaryStep_stopped {s : State} (hreset : s.resetReq = none) (hrun : s.cpu.run = .stopped) :
    boundaryStep s = .next s := by
  simp [boundaryStep, State.move, hreset, hrun]

theorem boundaryStep_waiting {s : State} (hreset : s.resetReq = none) (hrun : s.cpu.run = .waiting)
    (hnmi : s.cpu.nmiReq = false) (hirq : s.irqLine = false) : boundaryStep s = .next s := by
  simp [boundaryStep, State.move, hreset, hrun, hnmi, hirq]

/-- An IRQ that `P.I` masks ends a wait with no entry (R354). -/
theorem boundaryStep_wake {s : State} (hreset : s.resetReq = none) (hrun : s.cpu.run = .waiting)
    (hnmi : s.cpu.nmiReq = false) (hirq : s.irqLine = true) (hi : flagGet s.cpu.p .i = true) :
    boundaryStep s = .next (s.setRun .running) := by
  simp [boundaryStep, State.move, hreset, hrun, hnmi, hirq, hi]

/-- Settles O10: the move of each of the three boundaries (`boundaryStep_stopped` and the two after it). -/
theorem waitAndStopSteps : Obligations.WaitAndStopSteps := by
  intro s hquiet hreset
  rw [step_of_quiet hquiet]
  refine ⟨fun hrun => boundaryStep_stopped (s := polled s) hreset hrun,
    fun hrun hnmi hirq => boundaryStep_waiting (s := polled s) hreset hrun hnmi hirq, fun hrun hnmi hirq hi => ?_⟩
  exact boundaryStep_wake (s := polled s) hreset hrun hnmi hirq ((flagGet_eq_bitOf s.cpu.p .i).trans hi)

end Sys2Proof.Machine
end

section
/-! PROOFS. The copies of a block move as steps of two offsets modulo the index width (R340, R341): settles O60. -/

namespace Sys2Proof.Machine

open Sys2Proof.Claims

/-! The copies. -/

/-- The first copy, and then the others. -/
theorem copies_succ (src dst : Nat → Addr) (n : Nat) (b : Bus) :
    copies src dst (n + 1) b =
      copies (fun j => src (j + 1)) (fun j => dst (j + 1)) n ((b.read (src 0)).2.write (dst 0) (b.read (src 0)).1) := by
  rw [copies, List.range_succ_eq_map, List.foldl_cons, List.foldl_map]
  rfl

/-- `n` copies depend on the first `n` addresses alone. -/
theorem copies_congr {src src' dst dst' : Nat → Addr} {n : Nat} (hsrc : ∀ j < n, src j = src' j)
    (hdst : ∀ j < n, dst j = dst' j) (b : Bus) : copies src dst n b = copies src' dst' n b := by
  refine List.foldl_ext _ _ b fun _ j hj => ?_
  have hj := List.mem_range.mp hj
  rw [hsrc j hj, hdst j hj]

/-- Copies change the cells of their destinations alone: reads leave memory as it was. -/
theorem copies_onlyCells (src dst : Nat → Addr) (n : Nat) (b : Bus) :
    OnlyCells ((List.range n).map dst) b (copies src dst n b) := by
  induction n generalizing src dst b with
  | zero => exact fun _ _ _ => rfl
  | succ n ih =>
    have hread : SameBytes b (b.read (src 0)).2 := fun k => congrArg (·.read k) (b.read_mem (src 0))
    have hfirst := onlyCells_trans (sameBytes_onlyCells hread [])
      ((b.read (src 0)).2.write_onlyCells (dst 0) (b.read (src 0)).1) (b.read_params _)
    rw [copies_succ, List.range_succ_eq_map, List.map_cons, List.map_map]
    exact onlyCells_trans hfirst (ih _ _ _) (by rw [Bus.write_params, Bus.read_params])

/-! The offsets. -/

/-- What is added to an offset after each copy: 1 for MVN, -1 for MVP (R340, R341). -/
def moveDelta (up : Bool) : Word := if up then 1 else -1

theorem stepped_up (w : Width) (r : Word) (j : Nat) : stepped true w r j = (r.toNat + j) % 2 ^ w.bits := by
  rw [stepped, if_pos rfl]

theorem stepped_down (w : Width) (r : Word) (j : Nat) :
    stepped false w r j = (r.toNat + 65536 * 65536 - j) % 2 ^ w.bits := by
  rw [stepped, if_neg nofun]

/-- An offset that fits the index width is the one of the first copy. -/
theorem stepped_zero (up : Bool) {w : Width} {r : Word} (hr : r.toNat < 2 ^ w.bits) : stepped up w r 0 = r.toNat := by
  cases up with
  | true => rw [stepped_up, Nat.add_zero, Nat.mod_eq_of_lt hr]
  | false =>
    rw [stepped_down]
    cases w <;> simp only [Width.bits] at hr ⊢ <;> omega

/-- The offset one copy on is the start of the copies after the first. The bound keeps the subtraction of a step back exact. -/
theorem stepped_succ (up : Bool) (w : Width) (r : Word) {j : Nat} (hj : j < 65536) :
    stepped up w (w.mask (r + moveDelta up)) j = stepped up w r (j + 1) := by
  cases up with
  | true =>
    have hone : (moveDelta true).toNat = 1 := rfl
    rw [stepped_up, stepped_up, Width.mask_toNat, BitVec.toNat_add, hone]
    cases w <;> simp only [Width.bits] <;> omega
  | false =>
    have hminusOne : (moveDelta false).toNat = 65535 := rfl
    rw [stepped_down, stepped_down, Width.mask_toNat, BitVec.toNat_add, hminusOne]
    cases w <;> simp only [Width.bits] <;> omega

/-- The block move's loop makes the copies at the stepped offsets, and ends past the last of them. -/
theorem copyBlock_eq_copies (up : Bool) (w : Width) (dst src : Byte) {n : Nat} (hn : n ≤ 65536) {x y : Word}
    (hx : x.toNat < 2 ^ w.bits) (hy : y.toNat < 2 ^ w.bits) (b : Bus) :
    copyBlock (moveDelta up) w dst src n x y b =
      (BitVec.ofNat 16 (stepped up w x n), BitVec.ofNat 16 (stepped up w y n),
        copies (fun j => byteAddr src.toNat (stepped up w x j)) (fun j => byteAddr dst.toNat (stepped up w y j)) n b) := by
  induction n generalizing x y b with
  | zero => simp [copyBlock, copies, stepped_zero up hx, stepped_zero up hy]
  | succ n ih =>
    rw [copyBlock, ih (Nat.le_of_succ_le hn) (Width.mask_lt _ _) (Width.mask_lt _ _), stepped_succ up w x hn,
      stepped_succ up w y hn, copies_succ, stepped_zero up hx, stepped_zero up hy, ← mkAddr_eq_byteAddr,
      ← mkAddr_eq_byteAddr]
    have hrest (r : Word) (bank : Nat) (j : Nat) (hj : j < n) :
        byteAddr bank (stepped up w (w.mask (r + moveDelta up)) j) = byteAddr bank (stepped up w r (j + 1)) := by
      rw [stepped_succ up w r (by omega)]
    rw [copies_congr (hrest x src.toNat) (hrest y dst.toNat)]

/-! The instructions. -/

/-- Under the register invariants an index register fits the index width (R22, R32). -/
theorem Cpu.Inv.index_lt {c : Cpu} (h : c.Inv) : c.x.toNat < 2 ^ c.xw.bits ∧ c.y.toNat < 2 ^ c.xw.bits := by
  rw [Cpu.xw]
  split
  case isTrue h8 => exact (h.1 h8).imp toNat_lt_of_hiByte_zero toNat_lt_of_hiByte_zero
  case isFalse => exact ⟨c.x.isLt, c.y.isLt⟩

/-- An instruction moves a block when its meaning is the loop in one direction. -/
theorem movesBlock_of_exec {mk : Byte → Byte → Instr} {op : Byte} {up : Bool}
    (henc : ∀ dst src, encode (mk dst src) = [op, dst, src])
    (hexec : ∀ dst src s, exec (mk dst src) s = .next (blockMoveOp s (moveDelta up) dst src)) : MovesBlock mk op up := by
  intro dst src s hs
  obtain ⟨hx, hy⟩ := hs.index_lt
  refine ⟨henc dst src, ?_, copies_onlyCells _ _ _ _⟩
  rw [hexec, blockMoveOp, copyBlock_eq_copies up s.cpu.xw dst src s.cpu.a.isLt hx hy]
  rfl

/-- Settles O60: both are one loop (`copyBlock_eq_copies`), a step of 1 for MVN and of -1 for MVP. -/
theorem blockMoveResult : Obligations.BlockMoveResult :=
  ⟨movesBlock_of_exec (fun _ _ => rfl) fun _ _ _ => rfl, movesBlock_of_exec (fun _ _ => rfl) fun _ _ _ => rfl⟩

end Sys2Proof.Machine
end

section
/-! PROOFS. The multiply and divide units, and the registers that their results are read from (R374, R375, log 13): settles
O23. -/

namespace Sys2Proof.Machine

open Sys2Proof.Claims

/-! Word registers. -/

/-- Two targets answer the low and the high byte of a word, which telling the units does not change. -/
structure WordRegister (lo hi : Target) (word : Bus → Word) : Prop where
  low : ∀ (b : Bus) (a : Addr), b.readTarget a lo = b.answer a (loByte (word b))
  high : ∀ (b : Bus) (a : Addr), b.readTarget a hi = b.answer a (hiByte (word b))
  kept : ∀ (b : Bus) (ev : UnitEvent), word (b.tell ev) = word b

theorem quotient_wordRegister : WordRegister (.cpuReg 0x4214) (.cpuReg 0x4215) Bus.quotient :=
  ⟨fun _ _ => rfl, fun _ _ => rfl, fun _ _ => rfl⟩

/-- The register that product and remainder share (log 13). -/
theorem result_wordRegister : WordRegister (.cpuReg 0x4216) (.cpuReg 0x4217) Bus.result :=
  ⟨fun _ _ => rfl, fun _ _ => rfl, fun _ _ => rfl⟩

theorem product_wordRegister : WordRegister (.productReg false) (.productReg true) Bus.product :=
  ⟨fun _ _ => rfl, fun _ _ => rfl, fun _ _ => rfl⟩

theorem remainder_wordRegister : WordRegister (.remainderReg false) (.remainderReg true) Bus.remainder :=
  ⟨fun _ _ => rfl, fun _ _ => rfl, fun _ _ => rfl⟩

/-- The two reads of a word register, low byte first, give its word. -/
theorem WordRegister.read {tlo thi : Target} {word : Bus → Word} (h : WordRegister tlo thi word) {b : Bus} {c : BusParams}
    (hp : b.patches = []) (hc : b.params = c) {lo hi : Addr} (hlo : decodeAddr c lo = tlo) (hhi : decodeAddr c hi = thi) :
    (b.read lo).1.toNat + 256 * ((b.read lo).2.read hi).1.toNat = (word b).toNat := by
  subst hc
  have hlow : b.read lo = (loByte (word b), b.tell (.read lo)) := (Bus.read_of_no_patches hp hlo).trans (h.low b lo)
  have hhigh : ((b.tell (.read lo)).read hi).1 = hiByte (word b) := by
    rw [Bus.read_of_no_patches (b := b.tell (.read lo)) hp hhi, h.high, h.kept]
    rfl
  rw [hlow, hhigh, loByte_toNat, hiByte_toNat]
  omega

/-- A word in a register that it shares, or in one of its own, is read from either. -/
theorem WordRegister.read_either {tlo thi tlo' thi' : Target} {word word' : Bus → Word} (h : WordRegister tlo thi word)
    (h' : WordRegister tlo' thi' word') {b : Bus} {c : BusParams} (hword : word b = word' b) (hp : b.patches = [])
    (hc : b.params = c) {lo hi : Addr}
    (hregs : decodeAddr c lo = tlo ∧ decodeAddr c hi = thi ∨ decodeAddr c lo = tlo' ∧ decodeAddr c hi = thi') :
    (b.read lo).1.toNat + 256 * ((b.read lo).2.read hi).1.toNat = (word' b).toNat := by
  obtain ⟨hlo, hhi⟩ | ⟨hlo, hhi⟩ := hregs
  · rw [h.read hp hc hlo hhi, hword]
  · exact h'.read hp hc hlo hhi

/-! The units (R374, R375). -/

/-- Writing the multiplicand and then the multiplier multiplies the two (R374). -/
theorem Bus.write_multiply {b : Bus} {opA opB : Addr} (hA : decodeAddr b.params opA = .cpuReg 0x4202)
    (hB : decodeAddr b.params opB = .cpuReg 0x4203) (multA multB : Byte) :
    ∃ d : Bus, d.multA = multA ∧ (b.write opA multA).write opB multB = d.multiply multB := by
  refine ⟨(b.write opA multA).tell (.write opB multB), ?_, ?_⟩
  · rw [Bus.write_eq_writeTarget multA hA (by decide)]
    rfl
  · rw [Bus.write_eq_writeTarget multB (by simpa using hB) (by decide)]
    rfl

/-- Writing the two bytes of the dividend and then the divisor divides the word of the two (R375). -/
theorem Bus.write_divide {b : Bus} {opLo opHi opD : Addr} (hLo : decodeAddr b.params opLo = .cpuReg 0x4204)
    (hHi : decodeAddr b.params opHi = .cpuReg 0x4205) (hD : decodeAddr b.params opD = .cpuReg 0x4206)
    (lo hi divisor : Byte) :
    ∃ d : Bus, d.dividend = wordOf lo hi ∧ ((b.write opLo lo).write opHi hi).write opD divisor = d.divide divisor := by
  have hlo : loByte (wordOf lo (hiByte b.dividend)) = lo := BitVec.extractLsb'_append_eq_right
  refine ⟨((b.write opLo lo).write opHi hi).tell (.write opD divisor), ?_, ?_⟩
  · rw [Bus.write_eq_writeTarget hi (by simpa using hHi) (by decide), Bus.write_eq_writeTarget lo hLo (by decide)]
    exact congrArg (wordOf · hi) hlo
  · rw [Bus.write_eq_writeTarget divisor (by simpa using hD) (by decide)]
    rfl

/-- A product of two bytes fits a word, so it is exact. -/
theorem Bus.multiply_toNat (b : Bus) (multB : Byte) :
    (b.multiply multB).product.toNat = b.multA.toNat * multB.toNat := by
  have hlt : b.multA.toNat * multB.toNat < 2 ^ 8 * 2 ^ 8 := Nat.mul_lt_mul'' b.multA.isLt multB.isLt
  rw [Bus.multiply, BitVec.toNat_mul, toNat_setWidth_byte, toNat_setWidth_byte]
  exact Nat.mod_eq_of_lt hlt

/-- After a multiplication the shared register answers the product (log 13). -/
theorem Bus.multiply_result (b : Bus) (multB : Byte) : (b.multiply multB).result = (b.multiply multB).product := rfl

theorem Bus.divide_quotient_toNat (b : Bus) (divisor : Byte) :
    (b.divide divisor).quotient.toNat = if divisor = 0 then 0xFFFF else b.dividend.toNat / divisor.toNat := by
  unfold Bus.divide
  split
  · rfl
  · rw [BitVec.toNat_udiv, toNat_setWidth_byte]

theorem Bus.divide_remainder_toNat (b : Bus) (divisor : Byte) :
    (b.divide divisor).remainder.toNat =
      if divisor = 0 then b.dividend.toNat else b.dividend.toNat % divisor.toNat := by
  unfold Bus.divide
  split
  · rfl
  · rw [BitVec.toNat_umod, toNat_setWidth_byte]

/-- After a division the shared register answers the remainder (log 13). -/
theorem Bus.divide_result (b : Bus) (divisor : Byte) : (b.divide divisor).result = (b.divide divisor).remainder := by
  unfold Bus.divide
  split <;> rfl

/-- Settles O23: the last write commits the results (`Bus.write_multiply`, `Bus.write_divide`), and they are read from the
shared register or from one of their own (`WordRegister.read_either`). -/
theorem multiplyDivideUnits : Obligations.MultiplyDivideUnits := by
  intro b hp at' word
  refine ⟨fun multA multB opA opB lo hi hA hB hregs => ?product,
    fun dividendLo dividendHi divisor opLo opHi opD quotLo quotHi lo hi hLo hHi hD hqLo hqHi hregs => ?division⟩
  case product =>
    obtain ⟨d, rfl, hd⟩ := Bus.write_multiply hA hB multA multB
    rw [← d.multiply_toNat, ← hd]
    exact result_wordRegister.read_either product_wordRegister (by rw [hd, d.multiply_result]) (by simpa using hp)
      (by simp) hregs
  case division =>
    intro b' dividend
    have hp' : b'.patches = [] := by simpa [b'] using hp
    have hparams : b'.params = b.params := by simp [b']
    obtain ⟨d, hdividend, hd⟩ : ∃ d : Bus, d.dividend = wordOf dividendLo dividendHi ∧ b' = d.divide divisor :=
      Bus.write_divide hLo hHi hD dividendLo dividendHi divisor
    have hnum : dividend = d.dividend.toNat := by rw [hdividend, wordOf_toNat]
    rw [hnum, ← d.divide_quotient_toNat, ← d.divide_remainder_toNat, ← hd]
    exact ⟨quotient_wordRegister.read hp' hparams hqLo hqHi,
      result_wordRegister.read_either remainder_wordRegister (by rw [hd, d.divide_result]) hp' hparams hregs⟩

end Sys2Proof.Machine
end

section
/-! PROOFS. What each event of the environment changes before the step (R351, R352, R372, R77, R78, R430): settles O11. -/

namespace Sys2Proof.Machine

open Sys2Proof.Claims

/-- An event looks at no script, so it lands alike whatever events are scripted after it. -/
theorem State.applyEvent_withEnv (s : State) (ev : EnvEvent) (script : List (List EnvEvent)) :
    { s.applyEvent ev with env := script } = { s with env := script }.applyEvent ev := by
  cases ev with
  | vblank =>
    simp only [State.applyEvent]
    split <;> rfl
  | _ => rfl

/-- The first event of a boundary lands, and the step is the one from there. -/
theorem step_of_event {s : State} {ev : EnvEvent} {rest : List EnvEvent} {later : List (List EnvEvent)}
    (h : s.env = (ev :: rest) :: later) : step s = step { s.applyEvent ev with env := rest :: later } := by
  have hpoll : s.pollEnv = State.pollEnv { s.applyEvent ev with env := rest :: later } := by
    simp only [State.pollEnv, h, List.foldl_cons, State.applyEvent_withEnv]
  rw [step, step, hpoll]

/-! Each event's change. -/

/-- Bit 7 of `$4200` lets the start of VBLANK raise the NMI edge (R351, R372, R373). -/
theorem State.applyEvent_vblank (s : State) :
    s.applyEvent .vblank =
      { s with
        cpu := { s.cpu with nmiReq := s.cpu.nmiReq || bitOf s.bus.nmitimen 7 }
        bus := { s.bus with nmiFlag := true } } := by
  rw [bitOf_eq_getLsbD, State.applyEvent]
  cases s.bus.nmitimen.getLsbD 7 with
  | true => rw [Bool.or_true]; rfl
  | false => rw [Bool.or_false]; rfl

/-- Another agent's byte goes into the cell that its address names, if any (R77, R430). -/
theorem Bus.place_eq (b : Bus) (a : Addr) (v : Byte) : b.place a v = { b with mem := (b.place a v).mem } := by
  unfold Bus.place
  split <;> rfl

theorem Bus.place_read {b : Bus} (h : Memory.wf b.mem) (a : Addr) (v : Byte) (k : Nat) :
    (b.place a v).mem.read k = if cellOf b.params a = some k then v else b.mem.read k := by
  unfold Bus.place
  split
  next j hj =>
    rw [hj]
    by_cases hk : k = j
    · rw [hk, if_pos rfl, Memory.read_write_self h]
    · rw [if_neg fun he => hk (Option.some.inj he).symm, Memory.read_write_of_ne _ _ hk]
  next hnone => rw [hnone, if_neg nofun]

/-- Settles O11: the step is the one from the state in which the event has landed (`step_of_event`). -/
theorem eventsLandBeforeTheStep : Obligations.EventsLandBeforeTheStep := by
  intro s rest later
  refine ⟨fun lows h => step_of_event h, fun h => step_of_event h, fun h => ?vblank, fun level h => step_of_event h,
    fun a v h hwf => ?memory, fun port v h => ?mailbox, fun w h => step_of_event h, fun n h => step_of_event h,
    fun c h => step_of_event h, fun saved h => step_of_event h⟩
  case vblank => rw [step_of_event h, State.applyEvent_vblank]
  case memory =>
    refine ⟨(s.bus.place a v).mem, ?_, Bus.place_wf hwf a v, Bus.place_read hwf a v⟩
    rw [step_of_event h, ← Bus.place_eq]
    rfl
  case mailbox =>
    refine ⟨s.bus.fromApu.set port v, step_of_event h, fun port' => ?_⟩
    simp [Vector.getElem_set, Fin.ext_iff, eq_comm]

end Sys2Proof.Machine
end
